-- ==== Sys2Proof/Word.lean ====
section
/-! DEFINITION. Word.lean: the one word type that the VL-2430 shows on its wires (R181, R182). Everything else the
manual counts in (depths, volumes, money, seconds) is an integer (00 "Arithmetic"), held as a `Nat` or an `Int`. -/

namespace Sys2Proof

/-- One byte of a frame (R181). -/
abbrev Byte := BitVec 8

end Sys2Proof
end

