-- ==== Sys2Proof/Syntax.lean ====
section
/-! DEFINITION. Syntax.lean: the commands of the part, one constructor per row of spec/opcode_table.json, in its order.
A request carries the port it arrives on and the fields of its payload as the wire carries them (R181, R182): a number is a
`Nat`, a field that may be absent is a presence byte and a value, and a field that carries a named value is the code byte as
received, because R182 has a byte that is no code refused OUT_OF_RANGE by the request's own rule. -/

namespace Sys2Proof

/-- The three ports (00 "The part and its use"). -/
inductive Port
  | floor | mud | record
deriving DecidableEq, Repr

/-- The two interlock lines (R38, R39). -/
inductive Permit
  | slips | pump
deriving DecidableEq, Repr

/-- The levels on the two sense inputs at the moment a command samples them (R26, R40, R43; log entry 4). -/
structure SensePins where
  slips : Bool
  pump : Bool
deriving DecidableEq, Repr

/-- A field that may be absent, as R182 sends it: a presence byte, then the value's bytes. -/
structure OptField where
  presence : Nat
  value : Nat
deriving DecidableEq, Repr

/-- One component of a SET BHA request (R19): kind code, length, OD. -/
structure BhaField where
  kind : Nat
  length : Nat
  od : Nat
deriving DecidableEq, Repr

/-- One section of a SET CASING PROGRAM request (R87): base, bore, kind code. -/
structure SectionField where
  base : Nat
  bore : Nat
  kind : Nat
deriving DecidableEq, Repr

/-- The two flags of one source in a SET WAKE TABLE request (R176). -/
structure WakeField where
  wake : Nat
  notice : Nat
deriving DecidableEq, Repr

/-- The commands: 83 requests, three other transactions, and ten events of the part's own time base, timers and supply. -/
inductive Instr
  /-- REGISTER_ROD (request code 1, R3). FLOOR request in SETUP that makes a new rod record and puts the rod into a rack slot. -/
  | registerRod (p : Port) (serial : Nat) (length : Nat) (od : Nat) (slot : Nat)
  /-- DELETE_ROD (request code 2, R4). FLOOR request in SETUP that removes a laid-out rod's record from the register and the rod from the laid-out list. -/
  | deleteRod (p : Port) (serial : Nat)
  /-- RESTORE_ROD (request code 3, R5). FLOOR request in SETUP that takes a rod off the laid-out list into a slot and sets its status OK. -/
  | restoreRod (p : Port) (serial : Nat) (slot : Nat)
  /-- SET_WEAR_LIMITS (request code 4, R6). FLOOR request in SETUP that stores the joint limit and the hour limit. -/
  | setWearLimits (p : Port) (joints : Nat) (hours : Nat)
  /-- SET_SLOT_SENSING (request code 5, R11). FLOOR request in SETUP that sets sensing on or off for the 32 slots of a bay. -/
  | setSlotSensing (p : Port) (bay : Nat) (enables : List Nat)
  /-- RACK_SENSE (request code 6, R12). FLOOR report of sensed presence for a bay; it updates sensed states and recomputes discrepancy flags. -/
  | rackSense (p : Port) (bay : Nat) (presence : List Nat)
  /-- SET_BHA (request code 16, R19). FLOOR request in SETUP that replaces the bottom-hole assembly and changes the string length. -/
  | setBha (p : Port) (components : List BhaField)
  /-- SET_SLIPS (request code 17, R25). Move from ON_BLOCK to IN_SLIPS_LATCHED that freezes the string-top height. -/
  | setSlips (p : Port)
  /-- RELEASE_SLIPS (request code 18, R26). Move from IN_SLIPS_LATCHED to ON_BLOCK, taken only while SLIPS PERMIT is driven and sensed asserted. -/
  | releaseSlips (p : Port) (pins : SensePins)
  /-- UNLATCH (request code 19, R27). Move from IN_SLIPS_LATCHED to IN_SLIPS_FREE that withdraws both permits. -/
  | unlatch (p : Port)
  /-- LATCH (request code 20, R28). Confirmation in IN_SLIPS_FREE with a stab running that latches the top drive to the string top, unless the stab is early. -/
  | latch (p : Port)
  /-- BREAK_JOINT (request code 21, R29). Move that takes the top rod of the stack into the handling position, giving ROD_HELD_REMOVE. -/
  | breakJoint (p : Port)
  /-- PICK_ROD (request code 22, R30). Move in IN_SLIPS_FREE that takes a rod from a slot into the handling position, giving ROD_HELD_ADD. -/
  | pickRod (p : Port) (slot : Nat)
  /-- STAB (request code 23, R35). Starts or restarts the make-up window at the current device second. -/
  | stab (p : Port)
  /-- MAKE_JOINT (request code 24, R31). Confirmation in ROD_HELD_ADD that pushes the rod onto the stack and counts joints, unless the stab is early. -/
  | makeJoint (p : Port)
  /-- RACK_ROD (request code 25, R32). Move that puts the rod in the handling position into a slot, giving IN_SLIPS_FREE. -/
  | rackRod (p : Port) (slot : Nat)
  /-- LAY_OUT_ROD (request code 26, R33). Move that puts the rod in the handling position onto the laid-out list as REJECTED. -/
  | layOutRod (p : Port)
  /-- RESOLVE_ROD (request code 27, R42). FLOOR request that ends UNRESOLVED by sending the rod to the string top, a slot or the laid-out list. -/
  | resolveRod (p : Port) (destination : Nat) (slot : Nat)
  /-- SET_MAKEUP_LIMITS (request code 28, R34). FLOOR request in SETUP that stores the minimum and maximum make-up times. -/
  | setMakeupLimits (p : Port) (minimum : Nat) (maximum : Nat)
  /-- BLOCK (request code 32, R45). FLOOR report of block height and rotation; the depth unit then makes its depth computation. -/
  | block (p : Port) (height : Nat) (rotation : Nat)
  /-- DOWN_START (request code 33, R59). FLOOR or RECORD request that sets down on. -/
  | downStart (p : Port)
  /-- DOWN_END (request code 34, R59). FLOOR or RECORD request that sets down off. -/
  | downEnd (p : Port)
  /-- SET_PUMP (request code 40, R63). MUD request in SETUP that replaces one pump record. -/
  | setPump (p : Port) (pump : Nat) (displacement : Nat) (efficiency : Nat) (maxRate : Nat)
  /-- SET_CIRCULATION_LIMITS (request code 41, R64). MUD request in SETUP that stores the four circulation limits. -/
  | setCirculationLimits (p : Port) (loss : Nat) (gain : Nat) (flowOutMax : Nat) (pitStep : Nat)
  /-- CIRCULATION (request code 42, R66). MUD report of strokes, flow-out and pit volume, worked through its stages: channels, V_p, status, balance, alarms, strata sends and hand-offs. -/
  | circulation (p : Port) (p1 : Nat) (p2 : Nat) (flowOut : Nat) (pit : Nat)
  /-- ADDITIVE (request code 43, R83). MUD report of additive units, handed to the metering unit. -/
  | additive (p : Port) (item : Nat) (units : Nat)
  /-- SET_CASING_PROGRAM (request code 48, R87). RECORD request in SETUP that replaces the casing program. -/
  | setCasingProgram (p : Port) (sections : List SectionField)
  /-- SAMPLE_CAUGHT (request code 49, R98). MUD report that a sample was caught; it takes the head of the queue as CAUGHT or sets a register record's caught flag. -/
  | sampleCaught (p : Port) (number : Nat)
  /-- SET_DRILL_BREAK (request code 56, R112). RECORD request that sets the detector mode and ratio, clears the candidate and arms the detector. -/
  | setDrillBreak (p : Port) (mode : Nat) (ratio : Nat)
  /-- RE_ARM (request code 57, R112). RECORD request that sets the detector's armed flag. -/
  | reArm (p : Port)
  /-- CLASSIFY (request code 58, R117). RECORD edit that sets an interval's lithology and band, rebanding where the effective band changes. -/
  | classify (p : Port) (index : Nat) (lithology : OptField) (band : OptField)
  /-- CONFIRM (request code 59, R119). RECORD edit that sets an interval's top boundary CONFIRMED. -/
  | confirm (p : Port) (index : Nat)
  /-- MERGE (request code 60, R120). RECORD edit that joins an interval to the interval above it. -/
  | merge (p : Port) (index : Nat)
  /-- SPLIT (request code 61, R121). RECORD edit that divides the interval containing a depth into two parts. -/
  | split (p : Port) (depth : Nat)
  /-- WATER_STRIKE (request code 62, R123). RECORD edit that records a REPORTED water strike in the interval containing the depth. -/
  | waterStrike (p : Port) (depth : Nat) (yieldRate : OptField)
  /-- CLEAR_WATER_STRIKE (request code 63, R123). RECORD edit that removes an interval's water strike. -/
  | clearWaterStrike (p : Port) (index : Nat)
  /-- SET_BAND_RATES (request code 64, R130). RECORD rate-card write of the band rates and the default band; a change of default band rebands unclassified intervals. -/
  | setBandRates (p : Port) (rates : List Nat) (defaultBand : Nat)
  /-- SET_TIER_MULTIPLIERS (request code 65, R130). RECORD rate-card write of the eight tier multipliers, with 0 standing for the standard multiplier. -/
  | setTierMultipliers (p : Port) (multipliers : List Nat)
  /-- SET_HOURLY_RATES (request code 66, R131). RECORD rate-card write of the five hourly rates. -/
  | setHourlyRates (p : Port) (rates : List Nat)
  /-- SET_ADDITIVE_PRICES (request code 67, R131). RECORD rate-card write of the eight additive unit prices. -/
  | setAdditivePrices (p : Port) (prices : List Nat)
  /-- CLOSE_TICKET (request code 68, R142). RECORD request that prices and closes the open ticket, files it on the closed list and opens the next ticket. -/
  | closeTicket (p : Port) (reference : Nat)
  /-- ACKNOWLEDGE_TICKET (request code 69, R145). RECORD request that removes the head of the closed list. -/
  | acknowledgeTicket (p : Port) (number : Nat)
  /-- SET_NOTICE_LEVELS (request code 72, R152). RECORD request in SETUP that replaces the part-wide level table. -/
  | setNoticeLevels (p : Port) (levels : List Nat)
  /-- SET_NOTICE_FILTER (request code 73, R153). Sets one filter pair of the port on which it arrives. -/
  | setNoticeFilter (p : Port) (pair : Nat) (enable : Nat) (mask : Nat) (pattern : Nat)
  /-- ENTER_SETUP (request code 80, R168). RECORD mode request that enters SETUP if the rig is quiet and otherwise goes pending. -/
  | enterSetup (p : Port)
  /-- ENTER_RUN (request code 81, R169). RECORD mode request that enters RUN, subject to the entry checks when made from SETUP. -/
  | enterRun (p : Port)
  /-- ENTER_WATCH (request code 82, R170). RECORD mode request that enters WATCH from RUN or STANDBY. -/
  | enterWatch (p : Port)
  /-- ENTER_STANDBY (request code 83, R171). Mode request from any port that enters STANDBY if the standby condition holds and otherwise goes pending. -/
  | enterStandby (p : Port)
  /-- CANCEL_MODE (request code 84, R174). Empties the pending mode request. -/
  | cancelMode (p : Port)
  /-- SET_WAKE_TABLE (request code 85, R176). RECORD request in SETUP that sets the wake-enable and notice-enable flags of the four wake sources. -/
  | setWakeTable (p : Port) (sources : List WakeField)
  /-- PORT_RESET (request code 88, R189). Resets the notice state, frame-error count and reply slot of the port on which it arrives. -/
  | portReset (p : Port)
  /-- OPEN_JOB (request code 96, R194). RECORD request in SETUP that opens a job and sets each block's job state. -/
  | openJob (p : Port) (number : Nat) (startDepth : Nat) (sampleInterval : Nat)
  /-- CLOSE_JOB (request code 97, R195). RECORD request in SETUP that closes the last ticket and closes the job. -/
  | closeJob (p : Port) (reference : Nat)
  /-- READ_ROD (request code 128, R16). Returns every field of one rod record, with its derived location. -/
  | readRod (p : Port) (serial : Nat)
  /-- READ_ROD_LIST (request code 129, R16). Returns the rod count and up to 16 serials in ascending order from a position. -/
  | readRodList (p : Port) (position : Nat)
  /-- READ_SLOT (request code 130, R16). Returns one rack slot's four fields. -/
  | readSlot (p : Port) (slot : Nat)
  /-- READ_LAID_OUT_LIST (request code 131, R16). Returns the laid-out list count and up to 16 serials from a position. -/
  | readLaidOutList (p : Port) (position : Nat)
  /-- READ_WEAR_LIMITS (request code 132, R16). Returns the joint limit and the hour limit. -/
  | readWearLimits (p : Port)
  /-- READ_TALLY (request code 136, R43). Returns the tally state, stab, handling position, S, permit levels and faults, early-confirm count and last-move second. -/
  | readTally (p : Port) (pins : SensePins)
  /-- READ_STACK (request code 137, R43). Returns the stack count and up to 16 stack serials from a position. -/
  | readStack (p : Port) (position : Nat)
  /-- READ_BHA (request code 138, R43). Returns the BHA components. -/
  | readBha (p : Port)
  /-- READ_MAKEUP_LIMITS (request code 139, R43). Returns the minimum and maximum make-up times. -/
  | readMakeupLimits (p : Port)
  /-- READ_DEPTH (request code 144, R61). Returns the depth unit's fields, on bottom, down and rig activity. -/
  | readDepth (p : Port)
  /-- READ_CIRCULATION (request code 152, R84). Returns the circulation status, V_p, report figures, streaks, alarms and channel states. -/
  | readCirculation (p : Port)
  /-- READ_CHANNEL (request code 153, R84). Returns one channel's record. -/
  | readChannel (p : Port) (channel : Nat)
  /-- READ_PUMPS (request code 154, R84). Returns the pump records, effective stroke volumes and circulation limits. -/
  | readPumps (p : Port)
  /-- READ_CASING_PROGRAM (request code 160, R102). Returns the casing program and the below-program flag. -/
  | readCasingProgram (p : Port)
  /-- READ_ANNULUS (request code 161, R102). Computes and returns V_a and the lags for the current bit depth. -/
  | readAnnulus (p : Port)
  /-- READ_LAG_QUEUE (request code 162, R103). Returns the queue length, next sample number, V_p and up to two entries. -/
  | readLagQueue (p : Port) (position : Nat)
  /-- READ_LOG (request code 168, R125). Returns the log and detector summary, segment seconds and the last completed segment. -/
  | readLog (p : Port)
  /-- READ_INTERVAL (request code 169, R125). Returns one interval's fields, status, mean rate and member samples. -/
  | readInterval (p : Port) (index : Nat)
  /-- READ_INTERVAL_AT_DEPTH (request code 170, R125). Returns the index of the interval containing a depth. -/
  | readIntervalAtDepth (p : Port) (depth : Nat)
  /-- READ_SAMPLES (request code 171, R125). Returns up to four sample-register records from a number. -/
  | readSamples (p : Port) (number : Nat)
  /-- READ_TICKET (request code 176, R147). Returns a ticket header and a page of up to 8 lines, with provisional amounts for the open ticket. -/
  | readTicket (p : Port) (selector : Nat) (page : Nat)
  /-- READ_RATE_CARD (request code 177, R148). Returns one group of the rate card, with H_c and whether the card is writable. -/
  | readRateCard (p : Port) (group : Nat)
  /-- READ_JOB_TOTALS (request code 178, R148). Returns one group of the job totals, with the job's depths. -/
  | readJobTotals (p : Port) (selector : Nat)
  /-- READ_NOTICE (request code 184, R157). Removes and returns the first record of the port's notice queue. -/
  | readNotice (p : Port)
  /-- READ_SUMMARY (request code 185, R159). Returns and clears the port's pending-kinds summary. -/
  | readSummary (p : Port)
  /-- READ_NOTICE_STATUS (request code 186, R162). Returns the port's queue status, lost count, filter pairs and attention level. -/
  | readNoticeStatus (p : Port)
  /-- READ_NOTICE_LEVELS (request code 187, R162). Returns the level table. -/
  | readNoticeLevels (p : Port)
  /-- READ_MODE (request code 192, R179). Returns the mode, the pending request, rig-quiet, the standby condition, the entry checks and the wake table. -/
  | readMode (p : Port)
  /-- READ_PORT_STATUS (request code 200, R190). Returns the port number, the frame-error count and the device seconds counter. -/
  | readPortStatus (p : Port)
  /-- READ_JOB (request code 208, R199). Returns the job record, the ticket numbers and the store-blank flag. -/
  | readJob (p : Port)
  /-- READ_TRANSACTION (R180). SPI transaction with first byte 0 that shifts out the reply slot and empties it when the frame is fully clocked out. -/
  | readTransaction (p : Port) (clocked : Nat)
  /-- BAD_FRAME (R187). A write transaction whose length, checksum or payload length fails; it is refused and counted. -/
  | badFrame (p : Port) (code : Nat)
  /-- UNKNOWN_REQUEST (R187). A well-formed frame whose request code names no request, refused without a count. -/
  | unknownRequest (p : Port) (code : Nat)
  /-- DEVICE_SECOND (R60). Once-per-second work: wear counting, permit readback, rig activity, drilling seconds, job clock and second crediting. -/
  | deviceSecond (pins : SensePins)
  /-- MAKEUP_EXPIRED (R37). The stab reaches the maximum make-up time unconfirmed, ends, and raises MAKEUP_EXPIRED. -/
  | makeupExpired
  /-- CIRC_STALE (R74). Ten seconds pass without a report; circulation becomes STALE, the streaks clear and CIRC_STALE is raised. -/
  | circStale
  /-- PERMIT_FAULT (R40). A permit's readback disagrees with its drive at a second comparison; its fault flag is set and PERMIT_FAULT is raised. -/
  | permitFault (permit : Permit) (sense : Bool)
  /-- PENDING_MODE_TAKEN (R173). At a re-check the pending mode request's condition holds, and the mode becomes its target. -/
  | pendingModeTaken
  /-- SAMPLE_ARRIVAL (R97). A timed head entry whose target V_p has been reached leaves the queue, goes to the register and raises SAMPLE_DUE. -/
  | sampleArrival
  /-- POWER_ON (R197). Power-on sequence: volatile reset, store read, mode choice, power event, tally check and permit levels. -/
  | powerOn (storeValid : Bool)
  /-- RESET_ASSERTED (R197). While the RESET input is held asserted the part ignores transactions, stops the seconds counter and withdraws both permits. -/
  | resetAsserted
  /-- RESET_RELEASED (R197). Withdrawal of the RESET input runs the power-on sequence and counts as a power event. -/
  | resetReleased (storeValid : Bool)
  /-- POWER_LOSS (R196). The supply fails: volatile state is lost, the retained store keeps every retained field as before or after the event in hand, and the part stops until power returns. -/
  | powerLoss
deriving DecidableEq, Repr

end Sys2Proof
end

