-- ==== Sys2Proof/WellFormed.lean ====
section
/-! DEFINITION. WellFormed.lean: the fields of every request at the widths of R182, and the check that a command can come
over the wires: every field fits its width, every list has the length its rule gives it, and the frame is 4 to 64 bytes
(R181). `exec` does not need the check: a value outside a rule's range is refused by that rule. -/

namespace Sys2Proof

/-- One payload field: how many bytes R182 sends it in, and its value. -/
structure Field where
  width : Nat
  value : Nat
deriving DecidableEq, Repr

/-- R182: a list of numbers of one width. -/
def numbers (width : Nat) (values : List Nat) : List Field := values.map fun v => ⟨width, v⟩

/-- R19, R182: kind 1 byte, length 100–20,000 in 2, OD 40–700 in 2. -/
def BhaField.fields (c : BhaField) : List Field := [⟨1, c.kind⟩, ⟨2, c.length⟩, ⟨2, c.od⟩]

/-- R87, R182: base up to 1,600,000 in 4 bytes, bore 50–700 in 2, kind 1. -/
def SectionField.fields (c : SectionField) : List Field := [⟨4, c.base⟩, ⟨2, c.bore⟩, ⟨1, c.kind⟩]

/-- R176, R182: a byte per flag, the wake-enable flag first (log entry 16). -/
def WakeField.fields (c : WakeField) : List Field := [⟨1, c.wake⟩, ⟨1, c.notice⟩]

/-- R181: a request with no fields still carries one payload byte, which the part ignores. -/
def noField : List Field := [⟨1, 0⟩]

/-- R181, R182: the payload fields of each request, in the order its rule lists them; none for an event. -/
def Instr.fields : Instr → List Field
  | .registerRod _ serial length od slot => [⟨2, serial⟩, ⟨2, length⟩, ⟨1, od⟩, ⟨1, slot⟩]
  | .deleteRod _ serial => [⟨2, serial⟩]
  | .restoreRod _ serial slot => [⟨2, serial⟩, ⟨1, slot⟩]
  | .setWearLimits _ joints hours => [⟨2, joints⟩, ⟨2, hours⟩]
  | .setSlotSensing _ bay enables => [⟨1, bay⟩] ++ numbers 1 enables
  | .rackSense _ bay presence => [⟨1, bay⟩] ++ numbers 1 presence
  | .setBha _ components => ⟨1, components.length⟩ :: components.flatMap BhaField.fields
  | .setSlips _ => noField
  | .releaseSlips _ _ => noField
  | .unlatch _ => noField
  | .latch _ => noField
  | .breakJoint _ => noField
  | .pickRod _ slot => [⟨1, slot⟩]
  | .stab _ => noField
  | .makeJoint _ => noField
  | .rackRod _ slot => [⟨1, slot⟩]
  | .layOutRod _ => noField
  | .resolveRod _ destination slot => [⟨1, destination⟩, ⟨1, slot⟩]
  | .setMakeupLimits _ minimum maximum => [⟨1, minimum⟩, ⟨2, maximum⟩]
  | .block _ height rotation => [⟨2, height⟩, ⟨1, rotation⟩]
  | .downStart _ => noField
  | .downEnd _ => noField
  | .setPump _ pump displacement efficiency maxRate => [⟨1, pump⟩, ⟨2, displacement⟩, ⟨2, efficiency⟩, ⟨1, maxRate⟩]
  | .setCirculationLimits _ loss gain flowOutMax pitStep => [⟨2, loss⟩, ⟨2, gain⟩, ⟨2, flowOutMax⟩, ⟨2, pitStep⟩]
  | .circulation _ p1 p2 flowOut pit => [⟨1, p1⟩, ⟨1, p2⟩, ⟨2, flowOut⟩, ⟨2, pit⟩]
  | .additive _ item units => [⟨1, item⟩, ⟨1, units⟩]
  | .setCasingProgram _ sections => ⟨1, sections.length⟩ :: sections.flatMap SectionField.fields
  | .sampleCaught _ number => [⟨2, number⟩]
  | .setDrillBreak _ mode ratio => [⟨1, mode⟩, ⟨2, ratio⟩]
  | .reArm _ => noField
  | .classify _ index lithology band => [⟨2, index⟩, ⟨1, lithology.presence⟩, ⟨1, lithology.value⟩, ⟨1, band.presence⟩, ⟨1, band.value⟩]
  | .confirm _ index => [⟨2, index⟩]
  | .merge _ index => [⟨2, index⟩]
  | .split _ depth => [⟨4, depth⟩]
  | .waterStrike _ depth yieldRate => [⟨4, depth⟩, ⟨1, yieldRate.presence⟩, ⟨2, yieldRate.value⟩]
  | .clearWaterStrike _ index => [⟨2, index⟩]
  | .setBandRates _ rates defaultBand => numbers 4 rates ++ [⟨1, defaultBand⟩]
  | .setTierMultipliers _ multipliers => numbers 2 multipliers
  | .setHourlyRates _ rates => numbers 4 rates
  | .setAdditivePrices _ prices => numbers 4 prices
  | .closeTicket _ reference => [⟨2, reference⟩]
  | .acknowledgeTicket _ number => [⟨2, number⟩]
  | .setNoticeLevels _ levels => numbers 1 levels
  | .setNoticeFilter _ pair enable mask pattern => [⟨1, pair⟩, ⟨1, enable⟩, ⟨1, mask⟩, ⟨1, pattern⟩]
  | .enterSetup _ => noField
  | .enterRun _ => noField
  | .enterWatch _ => noField
  | .enterStandby _ => noField
  | .cancelMode _ => noField
  | .setWakeTable _ sources => sources.flatMap WakeField.fields
  | .portReset _ => noField
  | .openJob _ number startDepth sampleInterval => [⟨2, number⟩, ⟨4, startDepth⟩, ⟨2, sampleInterval⟩]
  | .closeJob _ reference => [⟨2, reference⟩]
  | .readRod _ serial => [⟨2, serial⟩]
  | .readRodList _ position => [⟨1, position⟩]
  | .readSlot _ slot => [⟨1, slot⟩]
  | .readLaidOutList _ position => [⟨1, position⟩]
  | .readWearLimits _ => noField
  | .readTally _ _ => noField
  | .readStack _ position => [⟨2, position⟩]
  | .readBha _ => noField
  | .readMakeupLimits _ => noField
  | .readDepth _ => noField
  | .readCirculation _ => noField
  | .readChannel _ channel => [⟨1, channel⟩]
  | .readPumps _ => noField
  | .readCasingProgram _ => noField
  | .readAnnulus _ => noField
  | .readLagQueue _ position => [⟨1, position⟩]
  | .readLog _ => noField
  | .readInterval _ index => [⟨2, index⟩]
  | .readIntervalAtDepth _ depth => [⟨4, depth⟩]
  | .readSamples _ number => [⟨2, number⟩]
  | .readTicket _ selector page => [⟨2, selector⟩, ⟨1, page⟩]
  | .readRateCard _ group => [⟨1, group⟩]
  | .readJobTotals _ selector => [⟨1, selector⟩]
  | .readNotice _ => noField
  | .readSummary _ => noField
  | .readNoticeStatus _ => noField
  | .readNoticeLevels _ => noField
  | .readMode _ => noField
  | .readPortStatus _ => noField
  | .readJob _ => noField
  | .readTransaction _ _ => []
  | .badFrame _ _ => []
  | .unknownRequest _ _ => []
  | .deviceSecond _ => []
  | .makeupExpired => []
  | .circStale => []
  | .permitFault _ _ => []
  | .pendingModeTaken => []
  | .sampleArrival => []
  | .powerOn _ => []
  | .resetAsserted => []
  | .resetReleased _ => []
  | .powerLoss => []

/-- 10.8: the request code of each request; none for a command that is no request of the index. -/
def Instr.requestCode : Instr → Option Nat
  | .registerRod _ _ _ _ _ => some 1
  | .deleteRod _ _ => some 2
  | .restoreRod _ _ _ => some 3
  | .setWearLimits _ _ _ => some 4
  | .setSlotSensing _ _ _ => some 5
  | .rackSense _ _ _ => some 6
  | .setBha _ _ => some 16
  | .setSlips _ => some 17
  | .releaseSlips _ _ => some 18
  | .unlatch _ => some 19
  | .latch _ => some 20
  | .breakJoint _ => some 21
  | .pickRod _ _ => some 22
  | .stab _ => some 23
  | .makeJoint _ => some 24
  | .rackRod _ _ => some 25
  | .layOutRod _ => some 26
  | .resolveRod _ _ _ => some 27
  | .setMakeupLimits _ _ _ => some 28
  | .block _ _ _ => some 32
  | .downStart _ => some 33
  | .downEnd _ => some 34
  | .setPump _ _ _ _ _ => some 40
  | .setCirculationLimits _ _ _ _ _ => some 41
  | .circulation _ _ _ _ _ => some 42
  | .additive _ _ _ => some 43
  | .setCasingProgram _ _ => some 48
  | .sampleCaught _ _ => some 49
  | .setDrillBreak _ _ _ => some 56
  | .reArm _ => some 57
  | .classify _ _ _ _ => some 58
  | .confirm _ _ => some 59
  | .merge _ _ => some 60
  | .split _ _ => some 61
  | .waterStrike _ _ _ => some 62
  | .clearWaterStrike _ _ => some 63
  | .setBandRates _ _ _ => some 64
  | .setTierMultipliers _ _ => some 65
  | .setHourlyRates _ _ => some 66
  | .setAdditivePrices _ _ => some 67
  | .closeTicket _ _ => some 68
  | .acknowledgeTicket _ _ => some 69
  | .setNoticeLevels _ _ => some 72
  | .setNoticeFilter _ _ _ _ _ => some 73
  | .enterSetup _ => some 80
  | .enterRun _ => some 81
  | .enterWatch _ => some 82
  | .enterStandby _ => some 83
  | .cancelMode _ => some 84
  | .setWakeTable _ _ => some 85
  | .portReset _ => some 88
  | .openJob _ _ _ _ => some 96
  | .closeJob _ _ => some 97
  | .readRod _ _ => some 128
  | .readRodList _ _ => some 129
  | .readSlot _ _ => some 130
  | .readLaidOutList _ _ => some 131
  | .readWearLimits _ => some 132
  | .readTally _ _ => some 136
  | .readStack _ _ => some 137
  | .readBha _ => some 138
  | .readMakeupLimits _ => some 139
  | .readDepth _ => some 144
  | .readCirculation _ => some 152
  | .readChannel _ _ => some 153
  | .readPumps _ => some 154
  | .readCasingProgram _ => some 160
  | .readAnnulus _ => some 161
  | .readLagQueue _ _ => some 162
  | .readLog _ => some 168
  | .readInterval _ _ => some 169
  | .readIntervalAtDepth _ _ => some 170
  | .readSamples _ _ => some 171
  | .readTicket _ _ _ => some 176
  | .readRateCard _ _ => some 177
  | .readJobTotals _ _ => some 178
  | .readNotice _ => some 184
  | .readSummary _ => some 185
  | .readNoticeStatus _ => some 186
  | .readNoticeLevels _ => some 187
  | .readMode _ => some 192
  | .readPortStatus _ => some 200
  | .readJob _ => some 208
  | .readTransaction _ _ => none
  | .badFrame _ _ => none
  | .unknownRequest _ _ => none
  | .deviceSecond _ => none
  | .makeupExpired => none
  | .circStale => none
  | .permitFault _ _ => none
  | .pendingModeTaken => none
  | .sampleArrival => none
  | .powerOn _ => none
  | .resetAsserted => none
  | .resetReleased _ => none
  | .powerLoss => none

/-- 10.8: the request codes of the index. -/
def requestCodes : List Nat :=
  [1, 2, 3, 4, 5, 6, 16, 17, 18, 19, 20, 21, 22, 23, 24, 25] ++
  [26, 27, 28, 32, 33, 34, 40, 41, 42, 43, 48, 49, 56, 57, 58, 59] ++
  [60, 61, 62, 63, 64, 65, 66, 67, 68, 69, 72, 73, 80, 81, 82, 83] ++
  [84, 85, 88, 96, 97, 128, 129, 130, 131, 132, 136, 137, 138, 139, 144, 152] ++
  [153, 154, 160, 161, 162, 168, 169, 170, 171, 176, 177, 178, 184, 185, 186, 187] ++
  [192, 200, 208]

/-- A field fits the bytes it is sent in. -/
def Field.fits (f : Field) : Bool := f.value < 256 ^ f.width

/-- The bytes of a payload. -/
def payloadLength (fs : List Field) : Nat := (fs.map Field.width).sum

/-- The lists of a request have the lengths that its rule gives them. -/
def Instr.listsOk : Instr → Bool
  | .setSlotSensing _ _ enables => enables.length == 32
  | .rackSense _ _ presence => presence.length == 32
  | .setBandRates _ rates _ => rates.length == 4
  | .setTierMultipliers _ multipliers => multipliers.length == 8
  | .setHourlyRates _ rates => rates.length == 5
  | .setAdditivePrices _ prices => prices.length == 8
  | .setNoticeLevels _ levels => levels.length == 25
  | .setWakeTable _ sources => sources.length == 4
  | _ => true

/-- The operand bytes of a transaction that is no request: an echoed code is a byte (R181), and an unknown code is one that
the index of 10.8 does not hold (R187). A read transaction clocks at least its first byte (R180). -/
def Instr.echoOk : Instr → Bool
  | .badFrame _ code => code < 256
  | .unknownRequest _ code => code < 256 && !(requestCodes.contains code)
  | .readTransaction _ clocked => 1 ≤ clocked
  | _ => true

/-- A command that can come over the wires: see the head of this file. -/
def Instr.wf (i : Instr) : Bool :=
  i.fields.all Field.fits && payloadLength i.fields + 3 ≤ 64 && i.listsOk && i.echoOk

end Sys2Proof
end

