-- ==== Sys2Proof/Decode.lean ====
section
/-! DEFINITION. Decode.lean: from the bytes of a transaction to the command it makes (R180, R181, R182, R187), total on any
bytes, and the encoder of a request. spec/opcode_table.json gives no row any bits, so `decodeTableWord` has no row to read. -/

namespace Sys2Proof

/-- No row of spec/opcode_table.json gives bits (log entry 28): a table word spells no command. -/
def decodeTableWord (_nbits _w : Nat) : Option Instr := none

/-- R182: `width` bytes of a number, least significant byte first. -/
def leBytes : Nat → Nat → List Byte
  | 0, _ => []
  | width + 1, v => BitVec.ofNat 8 v :: leBytes width (v / 256)

/-- R182: the number that bytes, least significant first, stand for. -/
def leNat : List Byte → Nat
  | [] => 0
  | b :: bs => b.toNat + 256 * leNat bs

/-- R187: the sum of bytes, modulo 256. -/
def byteSum (bs : List Byte) : Byte := bs.foldl (· + ·) 0

/-- R181: the check byte, chosen so that the sum of all the bytes of the frame is 0 modulo 256. -/
def checkByte (bs : List Byte) : Byte := -byteSum bs

/-- R181, R182: the payload of a request. -/
def encodeFields (fs : List Field) : List Byte := fs.flatMap fun f => leBytes f.width f.value

/-- R182: the numbers of a payload whose fields have these widths; none when its length is not theirs (R187, check 4). -/
def parseFields : List Nat → List Byte → Option (List Nat)
  | [], [] => some []
  | [], _ :: _ => none
  | w :: ws, bs =>
    if bs.length < w then none
    else (parseFields ws (bs.drop w)).map fun vs => leNat (bs.take w) :: vs

/-- R182: one byte per flag, `n` of them. -/
def flagWidths (n : Nat) : List Nat := List.replicate n 1

/-- R19: the components of SET BHA from their numbers, three each. -/
def bhaOf : List Nat → List BhaField
  | kind :: length :: od :: rest => ⟨kind, length, od⟩ :: bhaOf rest
  | _ => []

/-- R87: the sections of SET CASING PROGRAM from their numbers, three each. -/
def sectionsOf : List Nat → List SectionField
  | base :: bore :: kind :: rest => ⟨base, bore, kind⟩ :: sectionsOf rest
  | _ => []

/-- R176: the sources of SET WAKE TABLE from their numbers, two each. -/
def wakesOf : List Nat → List WakeField
  | wake :: notice :: rest => ⟨wake, notice⟩ :: wakesOf rest
  | _ => []

/-- R182: the count byte that leads a list of varying length, 0 for an empty payload (which then has the wrong length). -/
def leadingCount (payload : List Byte) : Nat := leNat (payload.take 1)

/-- R182: the widths of the fields of the request of a code, none for a code that names no request. SET BHA and SET CASING
PROGRAM need the length that their count byte gives, whether or not the count lies in its range. -/
def requestWidths (code : Nat) (payload : List Byte) : Option (List Nat) :=
  match code with
  | 1 => some ([2, 2, 1, 1])
  | 2 => some ([2])
  | 3 => some ([2, 1])
  | 4 => some ([2, 2])
  | 5 => some ([1] ++ flagWidths 32)
  | 6 => some ([1] ++ flagWidths 32)
  | 16 => some (1 :: (List.replicate (leadingCount payload) [1, 2, 2]).flatten)
  | 17 => some ([1])
  | 18 => some ([1])
  | 19 => some ([1])
  | 20 => some ([1])
  | 21 => some ([1])
  | 22 => some ([1])
  | 23 => some ([1])
  | 24 => some ([1])
  | 25 => some ([1])
  | 26 => some ([1])
  | 27 => some ([1, 1])
  | 28 => some ([1, 2])
  | 32 => some ([2, 1])
  | 33 => some ([1])
  | 34 => some ([1])
  | 40 => some ([1, 2, 2, 1])
  | 41 => some ([2, 2, 2, 2])
  | 42 => some ([1, 1, 2, 2])
  | 43 => some ([1, 1])
  | 48 => some (1 :: (List.replicate (leadingCount payload) [4, 2, 1]).flatten)
  | 49 => some ([2])
  | 56 => some ([1, 2])
  | 57 => some ([1])
  | 58 => some ([2, 1, 1, 1, 1])
  | 59 => some ([2])
  | 60 => some ([2])
  | 61 => some ([4])
  | 62 => some ([4, 1, 2])
  | 63 => some ([2])
  | 64 => some (List.replicate 4 4 ++ [1])
  | 65 => some (List.replicate 8 2)
  | 66 => some (List.replicate 5 4)
  | 67 => some (List.replicate 8 4)
  | 68 => some ([2])
  | 69 => some ([2])
  | 72 => some (flagWidths 25)
  | 73 => some ([1, 1, 1, 1])
  | 80 => some ([1])
  | 81 => some ([1])
  | 82 => some ([1])
  | 83 => some ([1])
  | 84 => some ([1])
  | 85 => some (flagWidths 8)
  | 88 => some ([1])
  | 96 => some ([2, 4, 2])
  | 97 => some ([2])
  | 128 => some ([2])
  | 129 => some ([1])
  | 130 => some ([1])
  | 131 => some ([1])
  | 132 => some ([1])
  | 136 => some ([1])
  | 137 => some ([2])
  | 138 => some ([1])
  | 139 => some ([1])
  | 144 => some ([1])
  | 152 => some ([1])
  | 153 => some ([1])
  | 154 => some ([1])
  | 160 => some ([1])
  | 161 => some ([1])
  | 162 => some ([1])
  | 168 => some ([1])
  | 169 => some ([2])
  | 170 => some ([4])
  | 171 => some ([2])
  | 176 => some ([2, 1])
  | 177 => some ([1])
  | 178 => some ([1])
  | 184 => some ([1])
  | 185 => some ([1])
  | 186 => some ([1])
  | 187 => some ([1])
  | 192 => some ([1])
  | 200 => some ([1])
  | 208 => some ([1])
  | _ => none

/-- 10.8: the request of a code from the numbers of its payload. The sense levels are those on the inputs when the request
arrives (log entry 4); none where the numbers are not those of its fields. -/
def requestOf (p : Port) (pins : SensePins) (code : Nat) (values : List Nat) : Option Instr :=
  match code, values with
  | 1, [serial, length, od, slot] => some (.registerRod p serial length od slot)
  | 2, [serial] => some (.deleteRod p serial)
  | 3, [serial, slot] => some (.restoreRod p serial slot)
  | 4, [joints, hours] => some (.setWearLimits p joints hours)
  | 5, bay :: enables => some (.setSlotSensing p bay enables)
  | 6, bay :: presence => some (.rackSense p bay presence)
  | 16, _ :: components => some (.setBha p (bhaOf components))
  | 17, [_] => some (.setSlips p)
  | 18, [_] => some (.releaseSlips p pins)
  | 19, [_] => some (.unlatch p)
  | 20, [_] => some (.latch p)
  | 21, [_] => some (.breakJoint p)
  | 22, [slot] => some (.pickRod p slot)
  | 23, [_] => some (.stab p)
  | 24, [_] => some (.makeJoint p)
  | 25, [slot] => some (.rackRod p slot)
  | 26, [_] => some (.layOutRod p)
  | 27, [destination, slot] => some (.resolveRod p destination slot)
  | 28, [minimum, maximum] => some (.setMakeupLimits p minimum maximum)
  | 32, [height, rotation] => some (.block p height rotation)
  | 33, [_] => some (.downStart p)
  | 34, [_] => some (.downEnd p)
  | 40, [pump, displacement, efficiency, maxRate] => some (.setPump p pump displacement efficiency maxRate)
  | 41, [loss, gain, flowOutMax, pitStep] => some (.setCirculationLimits p loss gain flowOutMax pitStep)
  | 42, [p1, p2, flowOut, pit] => some (.circulation p p1 p2 flowOut pit)
  | 43, [item, units] => some (.additive p item units)
  | 48, _ :: sections => some (.setCasingProgram p (sectionsOf sections))
  | 49, [number] => some (.sampleCaught p number)
  | 56, [mode, ratio] => some (.setDrillBreak p mode ratio)
  | 57, [_] => some (.reArm p)
  | 58, [index, lithologyHere, lithology, bandHere, band] => some (.classify p index ⟨lithologyHere, lithology⟩ ⟨bandHere, band⟩)
  | 59, [index] => some (.confirm p index)
  | 60, [index] => some (.merge p index)
  | 61, [depth] => some (.split p depth)
  | 62, [depth, yieldRateHere, yieldRate] => some (.waterStrike p depth ⟨yieldRateHere, yieldRate⟩)
  | 63, [index] => some (.clearWaterStrike p index)
  | 64, [r0, r1, r2, r3, defaultBand] => some (.setBandRates p [r0, r1, r2, r3] defaultBand)
  | 65, multipliers => some (.setTierMultipliers p multipliers)
  | 66, rates => some (.setHourlyRates p rates)
  | 67, prices => some (.setAdditivePrices p prices)
  | 68, [reference] => some (.closeTicket p reference)
  | 69, [number] => some (.acknowledgeTicket p number)
  | 72, levels => some (.setNoticeLevels p levels)
  | 73, [pair, enable, mask, pattern] => some (.setNoticeFilter p pair enable mask pattern)
  | 80, [_] => some (.enterSetup p)
  | 81, [_] => some (.enterRun p)
  | 82, [_] => some (.enterWatch p)
  | 83, [_] => some (.enterStandby p)
  | 84, [_] => some (.cancelMode p)
  | 85, sources => some (.setWakeTable p (wakesOf sources))
  | 88, [_] => some (.portReset p)
  | 96, [number, startDepth, sampleInterval] => some (.openJob p number startDepth sampleInterval)
  | 97, [reference] => some (.closeJob p reference)
  | 128, [serial] => some (.readRod p serial)
  | 129, [position] => some (.readRodList p position)
  | 130, [slot] => some (.readSlot p slot)
  | 131, [position] => some (.readLaidOutList p position)
  | 132, [_] => some (.readWearLimits p)
  | 136, [_] => some (.readTally p pins)
  | 137, [position] => some (.readStack p position)
  | 138, [_] => some (.readBha p)
  | 139, [_] => some (.readMakeupLimits p)
  | 144, [_] => some (.readDepth p)
  | 152, [_] => some (.readCirculation p)
  | 153, [channel] => some (.readChannel p channel)
  | 154, [_] => some (.readPumps p)
  | 160, [_] => some (.readCasingProgram p)
  | 161, [_] => some (.readAnnulus p)
  | 162, [position] => some (.readLagQueue p position)
  | 168, [_] => some (.readLog p)
  | 169, [index] => some (.readInterval p index)
  | 170, [depth] => some (.readIntervalAtDepth p depth)
  | 171, [number] => some (.readSamples p number)
  | 176, [selector, page] => some (.readTicket p selector page)
  | 177, [group] => some (.readRateCard p group)
  | 178, [selector] => some (.readJobTotals p selector)
  | 184, [_] => some (.readNotice p)
  | 185, [_] => some (.readSummary p)
  | 186, [_] => some (.readNoticeStatus p)
  | 187, [_] => some (.readNoticeLevels p)
  | 192, [_] => some (.readMode p)
  | 200, [_] => some (.readPortStatus p)
  | 208, [_] => some (.readJob p)
  | _, _ => none

/-- R187, checks 3 and 4: a frame whose length and sum are right, to the command it makes. -/
def requestOrRefusal (p : Port) (pins : SensePins) (code : Nat) (payload : List Byte) : Instr :=
  match requestWidths code payload with
  | none => .unknownRequest p code
  | some widths =>
    match (parseFields widths payload).bind (requestOf p pins code) with
    | none => .badFrame p code
    | some i => i

/-- R187, check 1: the length byte is 4–64 and is the number of bytes clocked. -/
def lengthOk (bs : List Byte) : Bool :=
  match bs with
  | [] => false
  | n :: _ => 4 ≤ n.toNat && n.toNat ≤ 64 && bs.length == n.toNat

/-- R181: the code byte that a reply echoes, 0 if the transaction held a single byte. -/
def echoedCode (bs : List Byte) : Nat := (bs.getD 1 0).toNat

/-- R180, R187: the command that the bytes clocked in one transaction make, with the levels on the sense inputs when it
ends. None where no whole byte was clocked: such a transaction has no effect and is not counted. -/
def receive (p : Port) (pins : SensePins) (bs : List Byte) : Option Instr :=
  match bs with
  | [] => none
  | first :: _ =>
    if first = 0 then some (.readTransaction p bs.length)
    else if lengthOk bs && byteSum bs == 0 then
      some (requestOrRefusal p pins (echoedCode bs) ((bs.drop 2).dropLast))
    else some (.badFrame p (echoedCode bs))

/-- R181: the frame of a request code and a payload. -/
def frameOf (code : Nat) (payload : List Byte) : List Byte :=
  let body := BitVec.ofNat 8 (payload.length + 3) :: BitVec.ofNat 8 code :: payload
  body ++ [checkByte body]

/-- R181, R182: the frame of a request; none for a command that is no request of the index. -/
def Instr.encode (i : Instr) : Option (List Byte) :=
  i.requestCode.map fun code => frameOf code (encodeFields i.fields)

/-- The port a command comes on; none for an event of the part itself. -/
def Instr.port : Instr → Option Port
  | .registerRod p _ _ _ _ => some p
  | .deleteRod p _ => some p
  | .restoreRod p _ _ => some p
  | .setWearLimits p _ _ => some p
  | .setSlotSensing p _ _ => some p
  | .rackSense p _ _ => some p
  | .setBha p _ => some p
  | .setSlips p => some p
  | .releaseSlips p _ => some p
  | .unlatch p => some p
  | .latch p => some p
  | .breakJoint p => some p
  | .pickRod p _ => some p
  | .stab p => some p
  | .makeJoint p => some p
  | .rackRod p _ => some p
  | .layOutRod p => some p
  | .resolveRod p _ _ => some p
  | .setMakeupLimits p _ _ => some p
  | .block p _ _ => some p
  | .downStart p => some p
  | .downEnd p => some p
  | .setPump p _ _ _ _ => some p
  | .setCirculationLimits p _ _ _ _ => some p
  | .circulation p _ _ _ _ => some p
  | .additive p _ _ => some p
  | .setCasingProgram p _ => some p
  | .sampleCaught p _ => some p
  | .setDrillBreak p _ _ => some p
  | .reArm p => some p
  | .classify p _ _ _ => some p
  | .confirm p _ => some p
  | .merge p _ => some p
  | .split p _ => some p
  | .waterStrike p _ _ => some p
  | .clearWaterStrike p _ => some p
  | .setBandRates p _ _ => some p
  | .setTierMultipliers p _ => some p
  | .setHourlyRates p _ => some p
  | .setAdditivePrices p _ => some p
  | .closeTicket p _ => some p
  | .acknowledgeTicket p _ => some p
  | .setNoticeLevels p _ => some p
  | .setNoticeFilter p _ _ _ _ => some p
  | .enterSetup p => some p
  | .enterRun p => some p
  | .enterWatch p => some p
  | .enterStandby p => some p
  | .cancelMode p => some p
  | .setWakeTable p _ => some p
  | .portReset p => some p
  | .openJob p _ _ _ => some p
  | .closeJob p _ => some p
  | .readRod p _ => some p
  | .readRodList p _ => some p
  | .readSlot p _ => some p
  | .readLaidOutList p _ => some p
  | .readWearLimits p => some p
  | .readTally p _ => some p
  | .readStack p _ => some p
  | .readBha p => some p
  | .readMakeupLimits p => some p
  | .readDepth p => some p
  | .readCirculation p => some p
  | .readChannel p _ => some p
  | .readPumps p => some p
  | .readCasingProgram p => some p
  | .readAnnulus p => some p
  | .readLagQueue p _ => some p
  | .readLog p => some p
  | .readInterval p _ => some p
  | .readIntervalAtDepth p _ => some p
  | .readSamples p _ => some p
  | .readTicket p _ _ => some p
  | .readRateCard p _ => some p
  | .readJobTotals p _ => some p
  | .readNotice p => some p
  | .readSummary p => some p
  | .readNoticeStatus p => some p
  | .readNoticeLevels p => some p
  | .readMode p => some p
  | .readPortStatus p => some p
  | .readJob p => some p
  | .readTransaction p _ => some p
  | .badFrame p _ => some p
  | .unknownRequest p _ => some p
  | .deviceSecond _ => none
  | .makeupExpired => none
  | .circStale => none
  | .permitFault _ _ => none
  | .pendingModeTaken => none
  | .sampleArrival => none
  | .powerOn _ => none
  | .resetAsserted => none
  | .resetReleased _ => none
  | .powerLoss => none

/-- The sense levels that a request samples when it arrives (log entry 4); none for a request that samples none. -/
def Instr.pins : Instr → Option SensePins
  | .releaseSlips _ pins => some pins
  | .readTally _ pins => some pins
  | _ => none

end Sys2Proof
end

