-- ==== Sys2Proof/Config.lean ====
section
/-! DEFINITION. Config.lean: the constants of the part (capacities and ranges that the rules state) and the FREE VALUES,
opaque constants that stand where the manual states an effect and no value: nothing in Lean can evaluate one, so whatever
is proved holds for every value. Each names its log entry. -/

namespace Sys2Proof.Config

/-- R1: the register holds up to 256 rod records. -/
def maxRods : Nat := 256
/-- R10: the rack has 256 slots, in eight bays of 32. -/
def rackSlots : Nat := 256
/-- R15: the laid-out list holds up to 32 rods. -/
def maxLaidOut : Nat := 32
/-- R53, R55: the cap of the hole depth, mm. -/
def holeCap : Nat := 1600000
/-- R93: the lag queue holds up to 64 entries. -/
def maxLag : Nat := 64
/-- R104: the log holds up to 400 intervals. -/
def maxIntervals : Nat := 400
/-- R108: the length of a segment, mm. -/
def segmentLength : Nat := 250
/-- R128: the height of a tier, mm. -/
def tierHeight : Nat := 200000
/-- R132: the closed list holds up to 4 tickets. -/
def maxClosed : Nat := 4
/-- R155: a notice queue holds up to 16 records. -/
def maxNotices : Nat := 16
/-- The limit at which a 32-bit saturating counter stops. -/
def max32 : Nat := 4294967295
/-- The limit at which a 16-bit saturating counter stops. -/
def max16 : Nat := 65535
/-- R138: the greatest magnitude of an amount, cents. -/
def maxAmount : Nat := 2147483647

/-- FREE VALUE (log entry 10). The 32-bit device seconds counter after its greatest value. -/
opaque deviceSecondsAfterMax : BitVec 32
/-- FREE VALUE (log entry 10). The difference "now less then" when the counter has passed its greatest value in between. -/
opaque elapsedAcrossOverflow : Nat → Nat → BitVec 32
/-- FREE VALUE (log entry 11). The 64-bit volume V_p, or a target, whose exact sum does not fit 64 bits. -/
opaque volumeOverflow : Nat → BitVec 64
/-- FREE VALUE (log entry 12). The 4 bytes in which a reply sends a number that does not fit them. -/
opaque overlong4 : Int → BitVec 32
/-- FREE VALUE (log entry 12). The 8 bytes in which a reply sends a number that does not fit them. -/
opaque overlong8 : Int → BitVec 64
/-- FREE VALUE (log entry 13). The top of the current segment that READ LOG returns before any job has been opened. -/
opaque segmentTopBeforeFirstJob : BitVec 32
/-- FREE VALUE (log entry 14). The number of pieces that READ ANNULUS returns while V_a is absent. -/
opaque annulusPiecesWhenAbsent : BitVec 32
/-- FREE VALUE (log entry 14). The section-kind byte that READ ANNULUS returns while V_a is absent. -/
opaque annulusKindWhenAbsent : BitVec 8

end Sys2Proof.Config
end

