-- ==== Sys2Proof/Machine/State.lean ====
section
/-! DEFINITION. Machine/State.lean: everything the manual gives the part to hold, as plain data, block by block (00 "Block
overview"), the reasons a step can stop, and the part right after its first power-on. Each field names the rule that names
it; "retained" and "volatile" are those of R196. -/

namespace Sys2Proof.Machine

/-! ### Named values (R183) -/

/-- R164. -/
inductive Mode
  | setup | run | watch | standby
deriving DecidableEq, Repr

/-- R22. -/
inductive TallyState
  | onBlock | inSlipsLatched | inSlipsFree | rodHeldAdd | rodHeldRemove | unresolved
deriving DecidableEq, Repr

/-- R1. -/
inductive RodStatus
  | ok | worn | rejected
deriving DecidableEq, Repr

/-- R10. -/
inductive Sensed
  | absent | present | unknown
deriving DecidableEq, Repr

/-- R18. -/
inductive ComponentKind
  | bit | collar | stabilizer | sub | hammer
deriving DecidableEq, Repr

/-- R86: CASED or OPEN. -/
inductive SectionKind
  | cased | openHole
deriving DecidableEq, Repr

/-- R60. -/
inductive Activity
  | drilling | circulating | tripping | idle | down
deriving DecidableEq, Repr

/-- R73. -/
inductive CircStatus
  | off | on | stale
deriving DecidableEq, Repr

/-- R67: the trust in a channel; R93: the quality of a lag queue entry. -/
inductive Trust
  | ok | suspect | rejected
deriving DecidableEq, Repr

/-- R106. -/
inductive SampleStatus
  | returns | noReturns | estimated | caught | missed | abandoned
deriving DecidableEq, Repr

/-- R104: whether the boundary at the top of an interval is accepted. -/
inductive Boundary
  | proposed | confirmed
deriving DecidableEq, Repr

/-- R112. -/
inductive DetectorMode
  | off | single | continuous
deriving DecidableEq, Repr

/-- R112: the kind of a candidate. -/
inductive CandidateKind
  | fast | slow
deriving DecidableEq, Repr

/-- R104: who says that water was met. -/
inductive StrikeSource
  | reported | gain
deriving DecidableEq, Repr

/-- R104, R128: the hardness band. -/
inductive Band
  | bandA | bandB | bandC | bandD
deriving DecidableEq, Repr

/-- R151: the 25 kinds of notice, in code order. -/
inductive NoticeKind
  | permitFault | rodUnresolved | gain | loss | channelRejected | makeupExpired | earlyMakeup | tallySequence
  | rackDiscrepancy | depthDisagree | depthLimit | channelSuspect | circStale | sampleDue | sampleMissed | drillBreak
  | waterStrikeProposed | belowProgram | logFull | rodWorn | modeChanged | ticketClosed | modePending | channelRecovered
  | standbyEvent
deriving DecidableEq, Repr

/-- R176: the four wake sources, numbered 1 to 4. -/
inductive WakeSource
  | floorActivity | circulation | recordRequest | artesian
deriving DecidableEq, Repr

/-- R180, R196, R197: whether the part has its supply and whether the RESET input is held asserted: dark without and with
RESET, powered and held by RESET, or powered with its power-on sequence ended (log entry 23). -/
inductive Power
  | off | offResetHeld | resetHeld | running
deriving DecidableEq, Repr

/-- R186: the reply codes. -/
inductive ReplyCode
  | ok | pending | alreadyArrived | badFrame | unknownRequest | notPermitted | wrongMode | sequence | early | notStabbed
  | empty | occupied | discrepancy | full | duplicate | noSuch | outOfOrder | outOfRange | incomplete | ticketOpen | busy
  | ticketsPending
deriving DecidableEq, Repr

/-! ### Rods and the rack -/

/-- R1: one rod record; its location is not stored (R2). -/
structure Rod where
  serial : Nat
  length : Nat
  od : Nat
  rotatingSeconds : Nat
  jointsMade : Nat
  status : RodStatus
deriving DecidableEq, Repr

/-- R10: one slot of the rack table. -/
structure Slot where
  occupant : Option Nat
  sensing : Bool
  sensed : Sensed
  discrepancy : Bool
deriving DecidableEq, Repr

/-- R1, R6, R10, R15: the rod register in ascending serial, the 256 slots, the laid-out list oldest first, the limits. -/
structure Rack where
  rods : List Rod
  slots : List Slot
  laidOut : List Nat
  jointLimit : Nat
  hourLimit : Nat
deriving DecidableEq, Repr

/-! ### The string tally -/

/-- R18: one component of the BHA. -/
structure Component where
  kind : ComponentKind
  length : Nat
  od : Nat
deriving DecidableEq, Repr

/-- R38 to R40: one permit line: the level driven, the level last read on its sense input, the mismatch count, the fault
flag. -/
structure PermitLine where
  drive : Bool
  sense : Bool
  mismatch : Nat
  fault : Bool
deriving DecidableEq, Repr

/-- R18, R20 to R24, R34, R36, R38, R39: the tally. The BHA and the stack are bottom to top; an empty BHA list is an
absent BHA; `stab` is the start second of a running stab. -/
structure Tally where
  bha : List Component
  stack : List Nat
  handling : Option Nat
  state : TallyState
  stab : Option Nat
  makeupMin : Nat
  makeupMax : Nat
  earlyConfirms : Nat
  lastMove : Option Nat
  slips : PermitLine
  pump : PermitLine
deriving DecidableEq, Repr

/-! ### The depth unit -/

/-- R44: the depth unit. `bit` is none while bit depth is STALE. The string-top source is not stored: it is FOLLOWING
exactly in ON_BLOCK (R44, R47). -/
structure Depth where
  block : Option Nat
  rotation : Bool
  stringTop : Option Int
  raw : Option Int
  bit : Option Nat
  aboveTable : Bool
  hole : Option Nat
  disagree : Bool
  limit : Bool
  down : Bool
  activity : Activity
deriving DecidableEq, Repr

/-! ### The circulation unit -/

/-- R62: one pump record. -/
structure Pump where
  displacement : Nat
  efficiency : Nat
  maxRate : Nat
deriving DecidableEq, Repr

/-- R67: one channel record; `last` is the last plausible value (a held stroke rate for P1 and P2), `reference` is PIT's. -/
structure Channel where
  counter : Nat
  state : Trust
  recovery : Nat
  last : Option Nat
  reference : Option Nat
deriving DecidableEq, Repr

/-- R62 to R77, R84: the circulation unit. -/
structure Circ where
  pump1 : Pump
  pump2 : Pump
  lossThreshold : Nat
  gainThreshold : Nat
  flowOutMax : Nat
  pitStep : Nat
  pumped : Nat
  status : CircStatus
  reportSecond : Option Nat
  lastE : Option Nat
  lastVolume : Option Nat
  flowIn : Nat
  flowOutUsed : Option Int
  lastD : Option Int
  previousPit : Option Nat
  lossStreak : Nat
  gainStreak : Nat
  balancedStreak : Nat
  loss : Bool
  gain : Bool
  p1 : Channel
  p2 : Channel
  flowOut : Channel
  pit : Channel
deriving DecidableEq, Repr

/-! ### The lag unit -/

/-- R86: one section of the casing program; its top is the base of the section above, 0 for the first. -/
structure Section where
  base : Nat
  bore : Nat
  kind : SectionKind
deriving DecidableEq, Repr

/-- R93: one entry of the lag queue; no target makes it untimed. -/
structure LagEntry where
  number : Nat
  origin : Nat
  issued : Nat
  target : Option Nat
  quality : Trust
  strokesHeld : Bool
deriving DecidableEq, Repr

/-- R86, R90, R91, R93, R96: the lag unit. An empty program is an absent one; the queue's head is the oldest entry. -/
structure Lag where
  program : List Section
  belowProgram : Bool
  queue : List LagEntry
  nextSample : Nat
  returnsLoss : Bool
  returnsFlowOut : Option Nat
deriving DecidableEq, Repr

/-! ### The strata log -/

/-- R104: water met in an interval. -/
structure Strike where
  depth : Nat
  yieldRate : Option Nat
  source : StrikeSource
deriving DecidableEq, Repr

/-- R104: one interval of the log; the last one is OPEN and has no base. -/
structure Interval where
  top : Nat
  base : Option Nat
  boundary : Boundary
  lithology : Option Nat
  band : Option Band
  posted : Band
  drilledMm : Nat
  drilledSeconds : Nat
  segments : Nat
  breakFlag : Bool
  lossVolume : Nat
  strike : Option Strike
deriving DecidableEq, Repr

/-- R106: one record of the sample register. -/
structure Sample where
  number : Nat
  origin : Nat
  status : SampleStatus
  arrival : Nat
  caught : Bool
deriving DecidableEq, Repr

/-- R112: the candidate of the drill-break detector. -/
structure Candidate where
  top : Nat
  seconds : Nat
  kind : CandidateKind
  mean : Nat
deriving DecidableEq, Repr

/-- R112: the drill-break detector. -/
structure Detector where
  mode : DetectorMode
  ratio : Nat
  armed : Bool
  reference : Option Nat
  candidate : Option Candidate
deriving DecidableEq, Repr

/-- R110: the last completed segment. -/
structure Segment where
  top : Nat
  seconds : Nat
  rate : Nat
deriving DecidableEq, Repr

/-- R104, R106, R109, R110, R112: the strata log. -/
structure StrataLog where
  intervals : List Interval
  samples : List Sample
  segmentSeconds : Nat
  lastSegment : Option Segment
  detector : Detector
deriving DecidableEq, Repr

/-! ### The metering unit -/

/-- R128: the rate card; lists are in the order of the rule's keys. -/
structure RateCard where
  bandRates : List Nat
  defaultBand : Band
  multipliers : List Nat
  hourly : List Nat
  prices : List Nat
deriving DecidableEq, Repr

/-- R133: the kind and key of a ticket line. -/
inductive LineKey
  | footage (band : Band) (tier : Nat)
  | time (activity : Activity)
  | additive (item : Nat)
  | adjustment (band : Band)
  | unwitnessed
  | setup
deriving DecidableEq, Repr

/-- R133: one line: its quantity (mm, seconds or units), the accrued cents of an ADJUSTMENT line, and the amount fixed at
close. -/
structure Line where
  key : LineKey
  quantity : Int
  cents : Int
  amount : Option Int
deriving DecidableEq, Repr

/-- R132: a ticket; its lines are kept in the order of R133. -/
structure Ticket where
  number : Nat
  reference : Option Nat
  clockOpen : Nat
  clockClose : Option Nat
  holeOpen : Nat
  holeClose : Option Nat
  powerEvents : Nat
  lines : List Line
  total : Option Int
  saturated : Bool
deriving DecidableEq, Repr

/-- R146: the job totals: footage at 8 × band + tier, seconds by activity, units by item. -/
structure Totals where
  footage : List Nat
  seconds : List Nat
  units : List Nat
deriving DecidableEq, Repr

/-- R128, R132, R139, R146: the metering unit; the closed list is oldest first. -/
structure Meter where
  card : RateCard
  openTicket : Option Ticket
  closed : List Ticket
  closedDepth : Nat
  totals : Totals
deriving DecidableEq, Repr

/-! ### Notices and ports -/

/-- R150: a notice record. -/
structure Notice where
  kind : NoticeKind
  level : Nat
  argA : Nat
  argB : Nat
  jobClock : Nat
deriving DecidableEq, Repr

/-- R153: a filter pair. -/
structure Filter where
  enabled : Bool
  mask : Nat
  pattern : Nat
deriving DecidableEq, Repr

/-- R153, R155, R156, R158, R180, R185, R187: what one port holds. `summary` has a flag per kind, in code order; `slot` is
the reply frame, if any; `dataOut` is what the last transaction shifted out from its second byte on, zeros following the bytes
listed: a write transaction leaves it empty (log entry 25). -/
structure PortState where
  queue : List Notice
  summary : List Bool
  lost : Nat
  filter1 : Filter
  filter2 : Filter
  slot : Option (List Byte)
  frameErrors : Nat
  dataOut : List Byte
deriving DecidableEq, Repr

/-- One value for each port. -/
structure PerPort where
  floor : PortState
  mud : PortState
  record : PortState
deriving DecidableEq, Repr

/-! ### Mode control and the job -/

/-- R176: the two flags of a wake source. -/
structure WakeFlags where
  wake : Bool
  notice : Bool
deriving DecidableEq, Repr

/-- R167: a pending mode request; the target is SETUP or STANDBY. -/
structure PendingMode where
  target : Mode
  origin : Port
deriving DecidableEq, Repr

/-- R164, R167, R176: mode control. -/
structure Modes where
  mode : Mode
  request : Option PendingMode
  floorActivity : WakeFlags
  circulation : WakeFlags
  recordRequest : WakeFlags
  artesian : WakeFlags
deriving DecidableEq, Repr

/-- R193: the job record. -/
structure Job where
  isOpen : Bool
  number : Option Nat
  start : Option Nat
  interval : Option Nat
  clock : Nat
deriving DecidableEq, Repr

/-! ### The part -/

/-- The state of the part, and the commands that wait for it. -/
structure State where
  /-- R180, R196, R197. -/
  power : Power
  /-- R190, R197: the device seconds counter, 32 bits, volatile. -/
  seconds : Nat
  /-- R196: the store-blank flag, volatile. -/
  storeBlank : Bool
  /-- Chapter 1. -/
  rack : Rack
  /-- Chapter 2. -/
  tally : Tally
  /-- Chapter 3. -/
  depth : Depth
  /-- Chapter 4. -/
  circ : Circ
  /-- Chapter 5. -/
  lag : Lag
  /-- Chapter 6. -/
  log : StrataLog
  /-- Chapter 7. -/
  meter : Meter
  /-- R152: the level of each kind, in code order, retained. -/
  levels : List Nat
  /-- Chapters 8 and 10. -/
  ports : PerPort
  /-- Chapter 9. -/
  modes : Modes
  /-- R193. -/
  job : Job
  /-- The model's own: the commands that wait, first in, first out (log entry 1). -/
  pending : List Instr
deriving DecidableEq, Repr

/-- No command of this part faults: every refusal of the manual is a reply (R186), so the type is empty. -/
inductive Fault
deriving DecidableEq, Repr

/-- The reasons the model may refuse a command. -/
inductive Refusal
  /-- Raised by an arm of `exec` for a command that has no meaning yet; no arm does. Safe: the model stops. -/
  | notModelled (mnemonic : String)
deriving DecidableEq, Repr

/-! ### Updates, one per block

Their small lemmas stand in Laws/State.lean. -/

def State.setPower (s : State) (x : Power) : State := { s with power := x }
def State.setSeconds (s : State) (x : Nat) : State := { s with seconds := x }
def State.setStoreBlank (s : State) (x : Bool) : State := { s with storeBlank := x }
def State.setRack (s : State) (x : Rack) : State := { s with rack := x }
def State.setTally (s : State) (x : Tally) : State := { s with tally := x }
def State.setDepth (s : State) (x : Depth) : State := { s with depth := x }
def State.setCirc (s : State) (x : Circ) : State := { s with circ := x }
def State.setLag (s : State) (x : Lag) : State := { s with lag := x }
def State.setLog (s : State) (x : StrataLog) : State := { s with log := x }
def State.setMeter (s : State) (x : Meter) : State := { s with meter := x }
def State.setLevels (s : State) (x : List Nat) : State := { s with levels := x }
def State.setPorts (s : State) (x : PerPort) : State := { s with ports := x }
def State.setModes (s : State) (x : Modes) : State := { s with modes := x }
def State.setJob (s : State) (x : Job) : State := { s with job := x }
def State.setPending (s : State) (x : List Instr) : State := { s with pending := x }

/-- What the port holds. -/
def PerPort.get (ps : PerPort) : Port → PortState
  | .floor => ps.floor
  | .mud => ps.mud
  | .record => ps.record

/-- The ports with one of them replaced. -/
def PerPort.set (ps : PerPort) (p : Port) (x : PortState) : PerPort :=
  match p with
  | .floor => { ps with floor := x }
  | .mud => { ps with mud := x }
  | .record => { ps with record := x }

/-! ### The factory values (R198) and the part after its first power-on -/

/-- R10, R17: a slot of a blank part. -/
def blankSlot : Slot := { occupant := none, sensing := false, sensed := .unknown, discrepancy := false }

/-- R17. -/
def blankRack : Rack :=
  { rods := [], slots := List.replicate Config.rackSlots blankSlot, laidOut := [], jointLimit := 500, hourLimit := 1500 }

/-- R40: a permit line that is driven withdrawn, with its volatile fields at their power-on values (sense: log entry 4). -/
def withdrawnLine : PermitLine := { drive := false, sense := false, mismatch := 0, fault := false }

/-- 2.9: the tally of a blank part while both permits are driven withdrawn (R197, step 1). -/
def blankTally : Tally :=
  { bha := [], stack := [], handling := none, state := .onBlock, stab := none, makeupMin := 4, makeupMax := 120,
    earlyConfirms := 0, lastMove := none, slips := withdrawnLine, pump := withdrawnLine }

/-- R44. -/
def blankDepth : Depth :=
  { block := none, rotation := false, stringTop := none, raw := none, bit := none, aboveTable := false, hole := none,
    disagree := false, limit := false, down := false, activity := .idle }

/-- R62. -/
def blankPump : Pump := { displacement := 0, efficiency := 1000, maxRate := 100 }

/-- R67: the power-on record of P1, P2 and FLOW_OUT. -/
def freshChannel : Channel := { counter := 0, state := .ok, recovery := 0, last := some 0, reference := none }

/-- R67: the power-on record of PIT. -/
def freshPit : Channel := { counter := 0, state := .ok, recovery := 0, last := none, reference := none }

/-- R85. -/
def blankCirc : Circ :=
  { pump1 := blankPump, pump2 := blankPump, lossThreshold := 60, gainThreshold := 60, flowOutMax := 3000, pitStep := 800,
    pumped := 0, status := .stale, reportSecond := none, lastE := none, lastVolume := none, flowIn := 0,
    flowOutUsed := none, lastD := none, previousPit := none, lossStreak := 0, gainStreak := 0, balancedStreak := 0,
    loss := false, gain := false, p1 := freshChannel, p2 := freshChannel, flowOut := freshChannel, pit := freshPit }

/-- R101. -/
def blankLag : Lag :=
  { program := [], belowProgram := false, queue := [], nextSample := 1, returnsLoss := false, returnsFlowOut := none }

/-- R126: the interval that OPEN JOB makes, and that a blank part holds at 0. -/
def freshInterval (top : Nat) (posted : Band) : Interval :=
  { top := top, base := none, boundary := .confirmed, lithology := none, band := none, posted := posted, drilledMm := 0,
    drilledSeconds := 0, segments := 0, breakFlag := false, lossVolume := 0, strike := none }

/-- R112, R126. -/
def blankLog : StrataLog :=
  { intervals := [freshInterval 0 .bandB], samples := [], segmentSeconds := 0, lastSegment := none,
    detector := { mode := .single, ratio := 200, armed := true, reference := none, candidate := none } }

/-- R146: job totals with every field at 0. -/
def zeroTotals : Totals :=
  { footage := List.replicate 32 0, seconds := List.replicate 5 0, units := List.replicate 8 0 }

/-- R128, R149. -/
def blankMeter : Meter :=
  { card := { bandRates := List.replicate 4 0, defaultBand := .bandB, multipliers := List.replicate 8 1000,
              hourly := List.replicate 5 0, prices := List.replicate 8 0 },
    openTicket := none, closed := [], closedDepth := 0, totals := zeroTotals }

/-- R151: the default level of each kind, in code order. -/
def defaultLevels : List Nat :=
  [0, 0, 0, 0, 1, 1, 1, 1, 1, 1, 1, 2, 2, 2, 2, 2, 2, 2, 2, 3, 3, 3, 3, 3, 3]

/-- R153: a filter pair after power-on. -/
def freshFilter : Filter := { enabled := false, mask := 0, pattern := 0 }

/-- R163, R191: a port after power-on. -/
def freshPort : PortState :=
  { queue := [], summary := List.replicate 25 false, lost := 0, filter1 := freshFilter, filter2 := freshFilter,
    slot := none, frameErrors := 0, dataOut := [] }

/-- R163, R191: the three ports after power-on. -/
def freshPorts : PerPort := { floor := freshPort, mud := freshPort, record := freshPort }

/-- R176: a source with both flags clear. -/
def clearFlags : WakeFlags := { wake := false, notice := false }

/-- 9.9. -/
def blankModes : Modes :=
  { mode := .setup, request := none, floorActivity := clearFlags, circulation := clearFlags, recordRequest := clearFlags,
    artesian := clearFlags }

/-- R193. -/
def blankJob : Job := { isOpen := false, number := none, start := none, interval := none, clock := 0 }

/-- The part right after its first power-on: the factory state of R198 after the sequence of R197, which chooses SETUP,
drives PUMP PERMIT asserted (R39: the tally is ON_BLOCK and the mode is not STANDBY), sets the store-blank flag (R196) and
raises no notice. No command waits. -/
def State.reset : State :=
  { power := .running, seconds := 0, storeBlank := true, rack := blankRack,
    tally := { blankTally with pump := { withdrawnLine with drive := true } }, depth := blankDepth, circ := blankCirc,
    lag := blankLag, log := blankLog, meter := blankMeter, levels := defaultLevels, ports := freshPorts,
    modes := blankModes, job := blankJob, pending := [] }

end Sys2Proof.Machine
end

