-- ==== Sys2Proof/Machine/Operands.lean ====
section
/-! DEFINITION. Machine/Operands.lean: the codes of the named values (R22, R151, R164, R167, R176, R183, R186), read from a
request's bytes and written into a reply's, and the other field encodings of R182. -/

namespace Sys2Proof.Machine

/-! ### Codes read from a request: none for a byte that is no code of its set (R182) -/

/-- R183: off/on, clear/set, disabled/enabled. -/
def switchOf : Nat → Option Bool
  | 0 => some false
  | 1 => some true
  | _ => none

/-- R183: a presence value is ABSENT or PRESENT (R12 refuses any other). -/
def presenceOf : Nat → Option Sensed
  | 0 => some .absent
  | 1 => some .present
  | _ => none

/-- R183. -/
def componentKindOf : Nat → Option ComponentKind
  | 0 => some .bit
  | 1 => some .collar
  | 2 => some .stabilizer
  | 3 => some .sub
  | 4 => some .hammer
  | _ => none

/-- R183. -/
def sectionKindOf : Nat → Option SectionKind
  | 0 => some .cased
  | 1 => some .openHole
  | _ => none

/-- R183. -/
def bandOf : Nat → Option Band
  | 0 => some .bandA
  | 1 => some .bandB
  | 2 => some .bandC
  | 3 => some .bandD
  | _ => none

/-- R183. -/
def detectorModeOf : Nat → Option DetectorMode
  | 0 => some .off
  | 1 => some .single
  | 2 => some .continuous
  | _ => none

/-- R182: a field that may be absent: `none` where it is refused, `some none` where it is absent. The presence byte is 0 or
1 (log entry 17: another byte is refused); the value bytes of an absent field are not read. -/
def readOptional {α : Type} (f : OptField) (value : Nat → Option α) : Option (Option α) :=
  match switchOf f.presence with
  | some false => some none
  | some true => (value f.value).map some
  | none => none

/-- A number within a range; none outside it. -/
def inRange (lo hi v : Nat) : Option Nat := if lo ≤ v ∧ v ≤ hi then some v else none

/-- Every value of a list read by one reader; none if any is refused. -/
def readAll {α : Type} (value : Nat → Option α) : List Nat → Option (List α)
  | [] => some []
  | v :: vs =>
    match value v, readAll value vs with
    | some x, some xs => some (x :: xs)
    | _, _ => none

/-! ### Codes written into a reply -/

/-- R183. -/
def Band.code : Band → Nat
  | .bandA => 0
  | .bandB => 1
  | .bandC => 2
  | .bandD => 3

/-- R183. -/
def Activity.code : Activity → Nat
  | .drilling => 0
  | .circulating => 1
  | .tripping => 2
  | .idle => 3
  | .down => 4

/-- R183. -/
def RodStatus.code : RodStatus → Nat
  | .ok => 0
  | .worn => 1
  | .rejected => 2

/-- R183. -/
def Sensed.code : Sensed → Nat
  | .absent => 0
  | .present => 1
  | .unknown => 2

/-- R183. -/
def ComponentKind.code : ComponentKind → Nat
  | .bit => 0
  | .collar => 1
  | .stabilizer => 2
  | .sub => 3
  | .hammer => 4

/-- R183. -/
def SectionKind.code : SectionKind → Nat
  | .cased => 0
  | .openHole => 1

/-- R183. -/
def CircStatus.code : CircStatus → Nat
  | .off => 0
  | .on => 1
  | .stale => 2

/-- R183. -/
def Trust.code : Trust → Nat
  | .ok => 0
  | .suspect => 1
  | .rejected => 2

/-- R183: the top boundary; an interval's status adds OPEN 0. -/
def Boundary.code : Boundary → Nat
  | .proposed => 1
  | .confirmed => 2

/-- R183. -/
def SampleStatus.code : SampleStatus → Nat
  | .returns => 0
  | .noReturns => 1
  | .estimated => 2
  | .caught => 3
  | .missed => 4
  | .abandoned => 5

/-- R183. -/
def DetectorMode.code : DetectorMode → Nat
  | .off => 0
  | .single => 1
  | .continuous => 2

/-- R183. -/
def CandidateKind.code : CandidateKind → Nat
  | .fast => 0
  | .slow => 1

/-- R183. -/
def StrikeSource.code : StrikeSource → Nat
  | .reported => 0
  | .gain => 1

/-- R22. -/
def TallyState.code : TallyState → Nat
  | .onBlock => 0
  | .inSlipsLatched => 1
  | .inSlipsFree => 2
  | .rodHeldAdd => 3
  | .rodHeldRemove => 4
  | .unresolved => 5

/-- R164. -/
def Mode.code : Mode → Nat
  | .setup => 0
  | .run => 1
  | .watch => 2
  | .standby => 3

/-- R167, R190: 1 FLOOR, 2 MUD, 3 RECORD. -/
def portNumber : Port → Nat
  | .floor => 1
  | .mud => 2
  | .record => 3

/-- R40: 1 for SLIPS PERMIT, 2 for PUMP PERMIT. -/
def permitNumber : Permit → Nat
  | .slips => 1
  | .pump => 2

/-- R176. -/
def WakeSource.number : WakeSource → Nat
  | .floorActivity => 1
  | .circulation => 2
  | .recordRequest => 3
  | .artesian => 4

/-- R151: the code of a kind, which is its rank. -/
def NoticeKind.code : NoticeKind → Nat
  | .permitFault => 1
  | .rodUnresolved => 2
  | .gain => 3
  | .loss => 4
  | .channelRejected => 5
  | .makeupExpired => 6
  | .earlyMakeup => 7
  | .tallySequence => 8
  | .rackDiscrepancy => 9
  | .depthDisagree => 10
  | .depthLimit => 11
  | .channelSuspect => 12
  | .circStale => 13
  | .sampleDue => 14
  | .sampleMissed => 15
  | .drillBreak => 16
  | .waterStrikeProposed => 17
  | .belowProgram => 18
  | .logFull => 19
  | .rodWorn => 20
  | .modeChanged => 21
  | .ticketClosed => 22
  | .modePending => 23
  | .channelRecovered => 24
  | .standbyEvent => 25

/-- R186. -/
def ReplyCode.code : ReplyCode → Nat
  | .ok => 0
  | .pending => 1
  | .alreadyArrived => 2
  | .badFrame => 3
  | .unknownRequest => 4
  | .notPermitted => 5
  | .wrongMode => 6
  | .sequence => 7
  | .early => 8
  | .notStabbed => 9
  | .empty => 10
  | .occupied => 11
  | .discrepancy => 12
  | .full => 13
  | .duplicate => 14
  | .noSuch => 15
  | .outOfOrder => 16
  | .outOfRange => 17
  | .incomplete => 18
  | .ticketOpen => 19
  | .busy => 20
  | .ticketsPending => 21

/-! ### Fields of a reply (R182) -/

/-- One byte. -/
def num1 (v : Nat) : List Byte := leBytes 1 v

/-- Two bytes. -/
def num2 (v : Nat) : List Byte := leBytes 2 v

/-- Four bytes; a number that does not fit them is a free value (log entry 12). -/
def num4 (v : Nat) : List Byte := leBytes 4 (if v < 2 ^ 32 then v else (Config.overlong4 v).toNat)

/-- Eight bytes; a number that does not fit them is a free value (log entry 12). -/
def num8 (v : Nat) : List Byte := leBytes 8 (if v < 2 ^ 64 then v else (Config.overlong8 v).toNat)

/-- Four bytes in two's complement; a number that does not fit them is a free value (log entry 12). -/
def int4 (v : Int) : List Byte :=
  leBytes 4 (if -2 ^ 31 ≤ v ∧ v < 2 ^ 31 then (BitVec.ofInt 32 v).toNat else (Config.overlong4 v).toNat)

/-- Eight bytes in two's complement; a number that does not fit them is a free value (log entry 12). -/
def int8 (v : Int) : List Byte :=
  leBytes 8 (if -2 ^ 63 ≤ v ∧ v < 2 ^ 63 then (BitVec.ofInt 64 v).toNat else (Config.overlong8 v).toNat)

/-- A flag (R183: 0, 1). -/
def flag (b : Bool) : List Byte := num1 b.toNat

/-- A field that may be absent: a presence byte, then the value's bytes, zeros when it is absent. -/
def optional {α : Type} (width : Nat) (bytes : α → List Byte) : Option α → List Byte
  | some v => num1 1 ++ bytes v
  | none => num1 0 ++ List.replicate width 0

/-- A list of varying length: a count byte, then its entries. -/
def counted {α : Type} (bytes : α → List Byte) (xs : List α) : List Byte := num1 xs.length ++ xs.flatMap bytes

/-- The part of a list that a read from a position returns: up to `n` entries, fewer or none when it ends sooner. -/
def page {α : Type} (position n : Nat) (xs : List α) : List α := (xs.drop position).take n

end Sys2Proof.Machine
end

