-- ==== Sys2Proof/Machine/Flags.lean ====
section
/-! DEFINITION. Machine/Flags.lean: what the part derives from its state at the moment it is needed and does not store:
elapsed times, the string length, the permit levels, on bottom, rig activity, rig-quiet, the entry checks, the effective
band, the mean rate, the attention lines. -/

namespace Sys2Proof.Machine

/-! ### Counters -/

/-- A saturating counter raised by `n` (00 "Arithmetic"). -/
def satAdd (limit v n : Nat) : Nat := min limit (v + n)

/-- The time from `thenSecond` to `now` on the device seconds counter; a free value across an overflow (log entry 10). -/
def elapsed (now thenSecond : Nat) : Nat :=
  if thenSecond ≤ now then now - thenSecond else (Config.elapsedAcrossOverflow now thenSecond).toNat

/-- The device seconds counter one second later; a free value after its greatest value (log entry 10). -/
def nextSecond (now : Nat) : Nat := if now < Config.max32 then now + 1 else Config.deviceSecondsAfterMax.toNat

/-- A volume held in 64 bits; a free value where it does not fit (log entry 11). -/
def volume64 (v : Nat) : Nat := if v < 2 ^ 64 then v else (Config.volumeOverflow v).toNat

/-! ### Rods, the rack and the string -/

/-- R1: the record of a serial. -/
def findRod (rods : List Rod) (serial : Nat) : Option Rod := rods.find? fun r => r.serial == serial

/-- The length of a registered rod. -/
def rodLength (rods : List Rod) (serial : Nat) : Nat := ((findRod rods serial).map Rod.length).getD 0

/-- R10: slot n of the rack. -/
def slotAt (k : Rack) (n : Nat) : Slot := k.slots.getD n blankSlot

/-- R10: sensing is on and the recorded and sensed states disagree. -/
def slotDisagrees (x : Slot) : Bool :=
  x.sensing && ((x.occupant.isSome && x.sensed == .absent) || (x.occupant.isNone && x.sensed == .present))

/-- R2: where a rod lies. -/
inductive Location
  | slot (n : Nat)
  | string (k : Nat)
  | handling
  | laidOut
deriving DecidableEq, Repr

/-- R2: the location of a rod, read from the four places. -/
def locationOf (s : State) (serial : Nat) : Location :=
  match s.rack.slots.findIdx? fun x => x.occupant == some serial with
  | some n => .slot n
  | none =>
    match s.tally.stack.findIdx? fun x => x == serial with
    | some k => .string (k + 1)
    | none => if s.tally.handling = some serial then .handling else .laidOut

/-- R18: the sum of the lengths of the components, 0 while the BHA is absent. -/
def bhaLength (t : Tally) : Nat := (t.bha.map Component.length).sum

/-- R20: S, the BHA length plus the lengths of all rods in the stack. -/
def stringLength (s : State) : Nat :=
  bhaLength s.tally + (s.tally.stack.map (rodLength s.rack.rods)).sum

/-- R36: the serial at the top of the stack, or 0 when the stack holds no rod. -/
def topSerial (t : Tally) : Nat := t.stack.getLast?.getD 0

/-- R38: SLIPS PERMIT. -/
def slipsLevel (t : Tally) (m : Modes) : Bool :=
  t.state == .inSlipsLatched && t.stab.isNone && t.state != .unresolved && m.mode != .standby

/-- R39: PUMP PERMIT. -/
def pumpLevel (t : Tally) (m : Modes) : Bool :=
  (t.state == .onBlock || t.state == .inSlipsLatched) && t.state != .unresolved &&
    (m.mode != .standby || m.circulation.wake)

/-! ### Depth -/

/-- R44, R47: whether string-top height follows block height. -/
def following (t : Tally) : Bool := t.state == .onBlock

/-- R57: the depth given to a block that needs the depth of the bit. -/
def bitDepthGiven (s : State) : Nat :=
  match s.depth.bit with
  | some z => z
  | none => if s.job.isOpen then s.depth.hole.getD 0 else 0

/-- The hole depth, or 0 before the first job. -/
def holeDepth (s : State) : Nat := s.depth.hole.getD 0

/-- The start depth of the job, or 0 before the first job. -/
def startDepth (s : State) : Nat := s.job.start.getD 0

/-- R58: on bottom. -/
def onBottom (s : State) : Bool :=
  match s.depth.bit, s.depth.hole with
  | some z, some h => s.job.isOpen && h - 300 ≤ z
  | _, _ => false

/-- R53, R54: the sum of the codes of the advance conditions that do not hold. -/
def advanceFailing (s : State) : Nat :=
  (if s.modes.mode = .run ∨ s.modes.mode = .watch then 0 else 1) +
  (if s.depth.rotation then 0 else 2) +
  (if s.circ.status = .on then 0 else 4)

/-- R60, line 2. -/
def trippingNow (s : State) : Bool :=
  s.tally.state != .onBlock ||
    match s.tally.lastMove with
    | some t => elapsed s.seconds t < 180
    | none => false

/-- R60: the rig activity of a device second. -/
def activityNow (s : State) : Activity :=
  if s.depth.down then .down
  else if trippingNow s then .tripping
  else if s.depth.rotation && s.circ.status == .on && onBottom s then .drilling
  else if s.circ.status == .on then .circulating
  else .idle

/-! ### Circulation -/

/-- R62: a pump whose displacement is 0 is absent. -/
def Pump.present (p : Pump) : Bool := p.displacement != 0

/-- R62: the effective stroke volume, mL. -/
def Pump.strokeVolume (p : Pump) : Nat := if p.present then p.displacement * p.efficiency / 1000 else 0

/-- R95: the worse of two trusts, OK best and REJECTED worst. -/
def Trust.worse : Trust → Trust → Trust
  | .rejected, _ => .rejected
  | _, .rejected => .rejected
  | .suspect, _ => .suspect
  | _, .suspect => .suspect
  | .ok, .ok => .ok

/-- R95: the worst state of the four channels. -/
def worstChannel (c : Circ) : Trust := ((c.p1.state.worse c.p2.state).worse c.flowOut.state).worse c.pit.state

/-- R95: a strokes channel is REJECTED. -/
def strokesRejected (c : Circ) : Bool := c.p1.state == .rejected || c.p2.state == .rejected

/-! ### The strata log -/

/-- R104, R128: the effective band of an interval. -/
def effectiveBand (card : RateCard) (x : Interval) : Band := x.band.getD card.defaultBand

/-- R105: the interval containing a depth; a depth above the start depth is taken as lying in interval 0. The list is in
order of top, so it is the last interval whose top is not below the depth. -/
def indexAt (intervals : List Interval) (z : Nat) : Nat :=
  (intervals.filter fun x => x.top ≤ z).length - 1

/-- R111: the mean rate of an interval, absent before it holds 2 completed segments. -/
def meanRate (x : Interval) : Option Nat :=
  if 2 ≤ x.segments then some (x.drilledMm * 60 / max 1 x.drilledSeconds) else none

/-- R107: the samples that belong to an interval. -/
def membersOf (samples : List Sample) (x : Interval) : List Sample :=
  samples.filter fun r => x.top ≤ r.origin &&
    match x.base with
    | some b => r.origin < b
    | none => true

/-! ### Metering -/

/-- R128: the cut of (p, q] at the tier boundaries: the tiers it reaches, in ascending depth, with the mm in each. -/
def tierPieces (p q : Nat) : List (Nat × Nat) :=
  (List.range 8).filterMap fun t =>
    let lo := max p (Config.tierHeight * t)
    let hi := min q (Config.tierHeight * (t + 1))
    if lo < hi then some (t, hi - lo) else none

/-- R133: a line of kind FOOTAGE, TIME, ADDITIVE or ADJUSTMENT is priced. -/
def LineKey.priced : LineKey → Bool
  | .unwitnessed => false
  | .setup => false
  | _ => true

/-- R129: the open ticket holds a priced line (without an open job there is none). -/
def pricedLineOpen (s : State) : Bool :=
  match s.meter.openTicket with
  | some t => s.job.isOpen && t.lines.any fun l => l.key.priced
  | none => false

/-! ### Mode control -/

/-- R166: the sum of the codes of the conditions of rig-quiet that fail. -/
def quietFailing (s : State) : Nat :=
  (if s.tally.handling.isNone then 0 else 1) +
  (if s.tally.stab.isNone then 0 else 2) +
  (if s.circ.status = .on then 4 else 0) +
  (if s.tally.state = .unresolved then 8 else 0) +
  (if s.tally.slips.fault || s.tally.pump.fault then 16 else 0)

/-- R166: the failing sum of the standby condition. -/
def standbyFailing (s : State) : Nat :=
  quietFailing s + if s.tally.state = .inSlipsLatched ∨ s.tally.state = .inSlipsFree then 0 else 32

/-- R169: the sum of the codes of the entry checks that fail. -/
def entryFailing (s : State) : Nat :=
  (if s.job.isOpen then 0 else 1) +
  (if s.lag.program.isEmpty then 2 else 0) +
  (if s.tally.bha.isEmpty then 4 else 0)

/-- R172: the condition of a pending mode request. -/
def pendingHolds (s : State) (r : PendingMode) : Bool :=
  match r.target with
  | .standby => standbyFailing s == 0
  | _ => quietFailing s == 0

/-- R176: the flags of a wake source. -/
def Modes.flags (m : Modes) : WakeSource → WakeFlags
  | .floorActivity => m.floorActivity
  | .circulation => m.circulation
  | .recordRequest => m.recordRequest
  | .artesian => m.artesian

/-! ### Notices -/

/-- R150: the job clock that a notice carries, 0 while no job is open. -/
def noticeClock (s : State) : Nat := if s.job.isOpen then s.job.clock else 0

/-- R155, R156: a record of lower level, or of equal level and lower rank, outranks another. -/
def outranks (x y : Notice) : Bool :=
  x.level < y.level || (x.level == y.level && x.kind.code < y.kind.code)

/-- R154: the kinds that are mandatory for a port. -/
def mandatory : Port → NoticeKind → Bool
  | .floor, .permitFault | .floor, .rodUnresolved | .floor, .makeupExpired | .floor, .earlyMakeup
  | .floor, .tallySequence => true
  | .mud, .permitFault | .mud, .gain | .mud, .loss | .mud, .channelRejected => true
  | .record, .ticketClosed => true
  | _, _ => false

/-- R154: an enabled pair whose masked match is the masked kind code. -/
def Filter.takes (f : Filter) (k : NoticeKind) : Bool :=
  f.enabled && (k.code &&& f.mask) == (f.pattern &&& f.mask)

/-- R154: a port queues a notice of this kind. -/
def wanted (p : Port) (x : PortState) (k : NoticeKind) : Bool :=
  mandatory p k || x.filter1.takes k || x.filter2.takes k

/-- R160: the attention line of a port. -/
def attention (x : PortState) : Bool := !x.queue.isEmpty

end Sys2Proof.Machine
end

