-- ==== Sys2Proof/Machine/Ops.lean ====
section
/-! DEFINITION. Machine/Ops.lean: the named operations that every block shares: raising and filing a notice, placing a
reply, refusing by an ordered list of checks, driving the permit lines, and the operations over rods and slots. -/

namespace Sys2Proof.Machine

/-! ### Notices (R150, R154 to R158) -/

/-- R155: a record placed after every record it does not outrank, and before the others. -/
def insertNotice (r : Notice) : List Notice → List Notice
  | [] => [r]
  | x :: xs => if outranks r x then r :: x :: xs else x :: insertNotice r xs

/-- R155, R156: a record queued to a port: placed while there is room, and otherwise kept in place of the last-ordered
record only if it outranks that one, the lost count rising either way. -/
def enqueueNotice (r : Notice) (x : PortState) : PortState :=
  if x.queue.length < Config.maxNotices then { x with queue := insertNotice r x.queue }
  else
    match x.queue.getLast? with
    | some l =>
      { x with queue := if outranks r l then insertNotice r x.queue.dropLast else x.queue,
               lost := satAdd Config.max16 x.lost 1 }
    | none => x

/-- R154, R158: what raising a notice does to one port: its kind joins the summary, then the filing decision is made. -/
def fileNotice (p : Port) (r : Notice) (x : PortState) : PortState :=
  let x := { x with summary := x.summary.set (r.kind.code - 1) true }
  if wanted p x r.kind then enqueueNotice r x else x

/-- R150: the record of a notice, with the level its kind has at this moment. -/
def noticeRecord (k : NoticeKind) (a b : Nat) (s : State) : Notice :=
  { kind := k, level := s.levels.getD (k.code - 1) 0, argA := a, argB := b, jobClock := noticeClock s }

/-- R150: a notice raised: its record filed to each port. -/
def raise (k : NoticeKind) (a b : Nat) (s : State) : State :=
  let r := noticeRecord k a b s
  s.setPorts { floor := fileNotice .floor r s.ports.floor, mud := fileNotice .mud r s.ports.mud,
               record := fileNotice .record r s.ports.record }

/-- A notice raised where a condition holds. -/
def raiseIf (c : Bool) (k : NoticeKind) (a b : Nat) (s : State) : State := if c then raise k a b s else s

/-! ### Replies (R181, R185, R186) -/

/-- What handling a request comes to: the reply code, the payload, the wake events the request itself carries (R81), and
the state after it. -/
structure Response where
  code : ReplyCode
  payload : List Byte
  wakes : List WakeSource
  state : State

/-- A request taken with no payload. -/
def taken (s : State) : Response := { code := .ok, payload := [], wakes := [], state := s }

/-- A request answered OK with a payload. -/
def answered (payload : List Byte) (s : State) : Response := { code := .ok, payload := payload, wakes := [], state := s }

/-- A request refused: the state is as it was (00 "Records, lists and names"). -/
def refuse (c : ReplyCode) (s : State) : Response := { code := c, payload := [], wakes := [], state := s }

/-- The first check of an ordered list that fails; each pair is "this refuses" and the reply code. -/
def firstFailing : List (Bool × ReplyCode) → Option ReplyCode
  | [] => none
  | (refuses, c) :: rest => if refuses then some c else firstFailing rest

/-- A request whose checks are made in order, the first that fails deciding the reply. -/
def checked (checks : List (Bool × ReplyCode)) (s : State) (r : Response) : Response :=
  match firstFailing checks with
  | some c => refuse c s
  | none => r

/-- R181: a reply frame: length, echoed code, reply code, the "previous reply unread" flag, payload, check byte. -/
def replyFrame (requestCode : Nat) (c : ReplyCode) (unread : Bool) (payload : List Byte) : List Byte :=
  let body := num1 (payload.length + 5) ++ num1 requestCode ++ num1 c.code ++ flag unread ++ payload
  body ++ [checkByte body]

/-- R180: a write transaction shifts out zeros (log entry 25). -/
def shiftZeros (p : Port) (s : State) : State := s.setPorts (s.ports.set p { s.ports.get p with dataOut := [] })

/-- R180, R185: a reply placed in the slot of a port at the end of a write transaction, which shifted out zeros; a reply that no
read has emptied is discarded, and the flag says so. -/
def placeReply (p : Port) (requestCode : Nat) (c : ReplyCode) (payload : List Byte) (s : State) : State :=
  let x := s.ports.get p
  s.setPorts (s.ports.set p { x with
    slot := some (replyFrame requestCode c x.slot.isSome payload), dataOut := [] })

/-- R188: a request is refused NOT_PERMITTED from a port that is not among these. -/
def onlyFrom (allowed : List Port) (p : Port) : Bool × ReplyCode := (!(allowed.contains p), .notPermitted)

/-- A request that is taken in SETUP only. -/
def onlyInSetup (s : State) : Bool × ReplyCode := (s.modes.mode != .setup, .wrongMode)

/-! ### Permit lines (R38, R39) -/

/-- R38, R39: both drives at the levels that the tally state, the stab, the mode and the wake flag give. -/
def drivePermits (s : State) : State :=
  s.setTally { s.tally with slips := { s.tally.slips with drive := slipsLevel s.tally s.modes },
                            pump := { s.tally.pump with drive := pumpLevel s.tally s.modes } }

/-- R197, step 1, and the RESET input: both lines driven withdrawn. -/
def withdrawPermits (s : State) : State :=
  s.setTally { s.tally with slips := { s.tally.slips with drive := false },
                            pump := { s.tally.pump with drive := false } }

/-- The levels read on the sense inputs (log entry 4). -/
def sensePermits (pins : SensePins) (s : State) : State :=
  s.setTally { s.tally with slips := { s.tally.slips with sense := pins.slips },
                            pump := { s.tally.pump with sense := pins.pump } }

/-! ### Rods and slots (R1, R9, R13, R14) -/

/-- R1: a record placed in ascending order of serial. -/
def insertRod (r : Rod) : List Rod → List Rod
  | [] => [r]
  | x :: xs => if r.serial < x.serial then r :: x :: xs else x :: insertRod r xs

/-- The record of a serial changed. -/
def modifyRod (serial : Nat) (f : Rod → Rod) (rods : List Rod) : List Rod :=
  rods.map fun r => if r.serial = serial then f r else r

/-- One slot of the rack replaced. -/
def setSlot (n : Nat) (x : Slot) (k : Rack) : Rack := { k with slots := k.slots.set n x }

/-- R13: a change of a slot's recorded occupant: sensed state UNKNOWN, flag clear (with sensing off they already are). -/
def setOccupant (n : Nat) (occupant : Option Nat) (k : Rack) : Rack :=
  setSlot n { slotAt k n with occupant := occupant, sensed := .unknown, discrepancy := false } k

/-- R14: the checks of a move that takes a rod from slot n. -/
def takeChecks (k : Rack) (n : Nat) : List (Bool × ReplyCode) :=
  [(255 < n, .outOfRange), ((slotAt k n).occupant.isNone, .empty),
   ((slotAt k n).sensing && (slotAt k n).sensed == .absent, .discrepancy)]

/-- R14: the checks of a move that puts a rod into slot n. -/
def putChecks (k : Rack) (n : Nat) : List (Bool × ReplyCode) :=
  [(255 < n, .outOfRange), ((slotAt k n).occupant.isSome, .occupied),
   ((slotAt k n).sensing && (slotAt k n).sensed == .present, .discrepancy)]

/-- R15: a rod joins the tail of the laid-out list as REJECTED. -/
def layOut (serial : Nat) (k : Rack) : Rack :=
  { k with laidOut := k.laidOut ++ [serial], rods := modifyRod serial (fun r => { r with status := .rejected }) k.rods }

/-- R9: an OK rod at or above a wear limit. -/
def wornOut (k : Rack) (r : Rod) : Bool :=
  r.status == .ok && (k.jointLimit ≤ r.jointsMade || k.hourLimit * 3600 ≤ r.rotatingSeconds)

/-- R9: the wear check of a rod, made after a count. -/
def wearCheck (serial : Nat) (s : State) : State :=
  match findRod s.rack.rods serial with
  | some r =>
    if wornOut s.rack r then
      raise .rodWorn serial r.jointsMade
        (s.setRack { s.rack with rods := modifyRod serial (fun r => { r with status := .worn }) s.rack.rods })
    else s
  | none => s

/-- The wear checks of several rods, in order. -/
def wearChecks (serials : List Nat) (s : State) : State := serials.foldl (fun s r => wearCheck r s) s

/-- The rods of the register whose serials are among these, changed. -/
def countRods (serials : List Nat) (f : Rod → Rod) (s : State) : State :=
  s.setRack { s.rack with rods := s.rack.rods.map fun r => if serials.contains r.serial then f r else r }

end Sys2Proof.Machine
end

