-- ==== Sys2Proof/Machine/MeterOps.lean ====
section
/-! DEFINITION. Machine/MeterOps.lean: the work of the metering unit that other blocks call: lines (R133), accrual (R134 to
R136), amounts (R137, R138), rebanding (R140, R141) and the closing of a ticket (R142, R144). -/

namespace Sys2Proof.Machine

/-! ### Rounding (00 "Arithmetic") -/

/-- Round-half-up of `num / den`, for amounts that are not negative. -/
def roundHalfUp (num den : Nat) : Nat := (2 * num + den) / (2 * den)

/-- Rounding half away from zero of `num / den`, for signed amounts. -/
def roundHalfAway (num : Int) (den : Nat) : Int :=
  if num < 0 then -(roundHalfUp num.natAbs den : Int) else (roundHalfUp num.natAbs den : Int)

/-- ceil(a / b). -/
def ceilDiv (a b : Nat) : Nat := (a + b - 1) / b

/-! ### Lines (R133) -/

/-- R133: the index of an activity in the order of the TIME lines. -/
def Activity.order (a : Activity) : Nat := a.code

/-- R133: the place of a line in the fixed order of a ticket's lines. -/
def LineKey.order : LineKey → Nat
  | .footage b t => 8 * b.code + t
  | .time a => 32 + a.order
  | .additive i => 37 + i
  | .adjustment b => 45 + b.code
  | .unwitnessed => 49
  | .setup => 50

/-- R133: a new line. -/
def newLine (k : LineKey) : Line := { key := k, quantity := 0, cents := 0, amount := none }

/-- R133: the line of a key changed, made first with its quantities at 0 if the ticket does not hold it. -/
def updateLine (k : LineKey) (f : Line → Line) : List Line → List Line
  | [] => [f (newLine k)]
  | l :: ls =>
    if l.key = k then f l :: ls
    else if k.order < l.key.order then f (newLine k) :: l :: ls
    else l :: updateLine k f ls

/-- A line's quantity raised without a limit of its own (FOOTAGE, ADJUSTMENT). -/
def addQuantity (n : Int) (l : Line) : Line := { l with quantity := l.quantity + n }

/-- R133: a line's quantity raised as a 32-bit saturating counter (TIME, ADDITIVE, UNWITNESSED, SETUP). -/
def addSaturating (n : Nat) (l : Line) : Line := { l with quantity := (satAdd Config.max32 l.quantity.toNat n : Nat) }

/-- A change of one line of the open ticket. -/
def updateOpenLine (k : LineKey) (f : Line → Line) (s : State) : State :=
  match s.meter.openTicket with
  | some t => s.setMeter { s.meter with openTicket := some { t with lines := updateLine k f t.lines } }
  | none => s

/-! ### Job totals (R146) -/

/-- One field of a list of counters changed. -/
def modifyAt (n : Nat) (f : Nat → Nat) (xs : List Nat) : List Nat := xs.set n (f (xs.getD n 0))

/-- R146: the place of the footage of a band and tier. -/
def footageIndex (b : Band) (tier : Nat) : Nat := 8 * b.code + tier

/-- The job totals changed. -/
def updateTotals (f : Totals → Totals) (s : State) : State := s.setMeter { s.meter with totals := f s.meter.totals }

/-! ### Accrual -/

/-- R134: one tier's piece of an increment. -/
def accruePiece (b : Band) (piece : Nat × Nat) (s : State) : State :=
  updateTotals (fun t => { t with footage := modifyAt (footageIndex b piece.1) (· + piece.2) t.footage })
    (updateOpenLine (.footage b piece.1) (addQuantity piece.2) s)

/-- R134: a new-hole increment (a, b] accrued under the band of the OPEN interval. -/
def accrueFootage (band : Band) (a b : Nat) (s : State) : State :=
  (tierPieces a b).foldl (fun s piece => accruePiece band piece s) s

/-- R135: the line that a second is credited to. -/
def secondLine (m : Mode) (act : Activity) : LineKey :=
  match m with
  | .run => .time act
  | .watch => .unwitnessed
  | .setup => .setup
  | .standby => .time .idle

/-- R135, R146: a job-clock second credited to a line of the open ticket and to the job totals. -/
def creditSecond (s : State) : State :=
  updateTotals
    (fun t => { t with seconds := modifyAt s.depth.activity.code (fun v => satAdd Config.max32 v 1) t.seconds })
    (updateOpenLine (secondLine s.modes.mode s.depth.activity) (addSaturating 1) s)

/-- R136, R146: an additive. -/
def accrueAdditive (item units : Nat) (s : State) : State :=
  updateTotals (fun t => { t with units := modifyAt item (fun v => satAdd Config.max32 v units) t.units })
    (updateOpenLine (.additive item) (addSaturating units) s)

/-! ### Amounts (R137, R138) -/

/-- R137: the billed tenths of an hour of a TIME line. -/
def billedTenths (seconds : Nat) : Nat := ceilDiv seconds 360

/-- R137: the amount of a line under a rate card, before the limit of R138; none for a line that carries no price. -/
def rawAmount (card : RateCard) (l : Line) : Option Int :=
  match l.key with
  | .footage b t =>
    some (roundHalfUp (l.quantity.toNat * card.bandRates.getD b.code 0 * card.multipliers.getD t 0) 1000000 : Nat)
  | .time a => some (roundHalfUp (billedTenths l.quantity.toNat * card.hourly.getD a.code 0) 10 : Nat)
  | .additive i => some (l.quantity.toNat * card.prices.getD i 0 : Nat)
  | .adjustment _ => some l.cents
  | .unwitnessed => none
  | .setup => none

/-- R138: an amount limited to ±(2³¹−1) cents. -/
def limitAmount (v : Int) : Int :=
  if (Config.maxAmount : Int) < v then Config.maxAmount
  else if v < -(Config.maxAmount : Int) then -(Config.maxAmount : Int)
  else v

/-- R138: an amount that the limit changes. -/
def overLimit (v : Int) : Bool := limitAmount v != v

/-- R138: the limited amount of a line. -/
def amountOf (card : RateCard) (l : Line) : Option Int := (rawAmount card l).map limitAmount

/-- R138: the sum of the limited line amounts, before its own limit. -/
def rawTotal (card : RateCard) (lines : List Line) : Int := (lines.filterMap (amountOf card)).sum

/-- R138: some amount or the total is limited. -/
def saturates (card : RateCard) (lines : List Line) : Bool :=
  (lines.filterMap (rawAmount card)).any overLimit || overLimit (rawTotal card lines)

/-! ### Closing a ticket (R142, R144) -/

/-- R142, steps 1 and 2: a ticket closed with a reference, at a job clock and a hole depth, priced under a card. -/
def priced (card : RateCard) (reference clock hole : Nat) (t : Ticket) : Ticket :=
  { t with reference := some reference, clockClose := some clock, holeClose := some hole,
           lines := t.lines.map (fun l => { l with amount := amountOf card l }),
           total := some (limitAmount (rawTotal card t.lines)), saturated := saturates card t.lines }

/-- R132, R142: a ticket that opens. -/
def newTicket (number clock hole : Nat) : Ticket :=
  { number := number, reference := none, clockOpen := clock, clockClose := none, holeOpen := hole, holeClose := none,
    powerEvents := 0, lines := [], total := none, saturated := false }

/-- R142: the number of the ticket after this one. -/
def nextNumber (n : Nat) : Nat := if n = 65535 then 1 else n + 1

/-- R142, R144: the open ticket closed, and the next one opened if `reopen`. -/
def closeOpenTicket (reference : Nat) (reopen : Bool) (s : State) : State :=
  match s.meter.openTicket with
  | some t =>
    let clock := s.job.clock
    let hole := holeDepth s
    let s := s.setMeter { s.meter with closed := s.meter.closed ++ [priced s.meter.card reference clock hole t],
                                       openTicket := none, closedDepth := hole }
    let s := raise .ticketClosed t.number hole s
    if reopen then s.setMeter { s.meter with openTicket := some (newTicket (nextNumber t.number) clock hole) } else s
  | none => s

/-! ### Rebanding (R140, R141) -/

/-- R140: the tier adjustment of one piece of the closed portion. -/
def tierAdjustment (card : RateCard) (old new : Band) (piece : Nat × Nat) : Int :=
  roundHalfAway
    ((piece.2 : Int) * ((card.bandRates.getD new.code 0 : Int) - (card.bandRates.getD old.code 0 : Int)) *
      (card.multipliers.getD piece.1 0 : Int)) 1000000

/-- R140: the posts for the closed portion (p, q], none when it is empty. -/
def postAdjustment (old new : Band) (p q : Nat) (s : State) : State :=
  if q ≤ p then s
  else
    let mm : Int := ((q - p : Nat) : Int)
    let cents := ((tierPieces p q).map (tierAdjustment s.meter.card old new)).sum
    updateOpenLine (.adjustment old) (addQuantity (-mm))
      (updateOpenLine (.adjustment new) (fun l => { l with quantity := l.quantity + mm, cents := l.cents + cents }) s)

/-- R141: one tier's piece of the open portion moved between FOOTAGE lines. -/
def moveFootage (old new : Band) (piece : Nat × Nat) (s : State) : State :=
  updateOpenLine (.footage new piece.1) (addQuantity piece.2)
    (updateOpenLine (.footage old piece.1) (addQuantity (-(piece.2 : Int))) s)

/-- R141: one tier's piece of the whole range moved in the job totals. -/
def moveTotals (old new : Band) (piece : Nat × Nat) (s : State) : State :=
  updateTotals
    (fun t => { t with footage := modifyAt (footageIndex new piece.1) (· + piece.2)
                                    (modifyAt (footageIndex old piece.1) (· - piece.2) t.footage) }) s

/-- R140, R141: a rebanding call for the range from `top` to `bottom`. -/
def reband (top bottom : Nat) (old new : Band) (s : State) : State :=
  let u := max top (startDepth s)
  let s := postAdjustment old new u (min bottom s.meter.closedDepth) s
  let s := (tierPieces (max u s.meter.closedDepth) bottom).foldl (fun s piece => moveFootage old new piece s) s
  (tierPieces u bottom).foldl (fun s piece => moveTotals old new piece s) s

end Sys2Proof.Machine
end

