-- ==== Sys2Proof/Machine/StrataOps.lean ====
section
/-! DEFINITION. Machine/StrataOps.lean: the work of the strata log that other blocks call: the sample register (R106), new
hole and segments (R108, R110), the drill-break detector (R113 to R115), calls for rebanding (R118), lost volume and
water-strike proposals (R122, R124), and the entry to SETUP (R127). -/

namespace Sys2Proof.Machine

/-! ### Intervals -/

/-- The OPEN interval, the last of the list (R105). -/
def openInterval (g : StrataLog) : Interval := g.intervals.getLast?.getD (freshInterval 0 .bandB)

/-- The index of the OPEN interval. -/
def openIndex (g : StrataLog) : Nat := g.intervals.length - 1

/-- The interval of an index. -/
def intervalAt (g : StrataLog) (n : Nat) : Interval := g.intervals.getD n (freshInterval 0 .bandB)

/-- One interval of the log changed. -/
def modifyInterval (n : Nat) (f : Interval → Interval) (g : StrataLog) : StrataLog :=
  { g with intervals := g.intervals.modify n f }

/-- The OPEN interval changed. -/
def modifyOpen (f : Interval → Interval) (g : StrataLog) : StrataLog := modifyInterval (openIndex g) f g

/-- The detector changed. -/
def modifyDetector (f : Detector → Detector) (g : StrataLog) : StrataLog := { g with detector := f g.detector }

/-- The bottom of an interval's depth range: its base, or the hole depth for the OPEN interval (R118). -/
def bottomOf (s : State) (x : Interval) : Nat := x.base.getD (holeDepth s)

/-- R118: the metering unit called for an interval whose effective band differs from its band posted. -/
def postBand (n : Nat) (s : State) : State :=
  let x := intervalAt s.log n
  let new := effectiveBand s.meter.card x
  if new = x.posted then s
  else
    let s := reband x.top (bottomOf s x) x.posted new s
    s.setLog (modifyInterval n (fun x => { x with posted := new }) s.log)

/-- R118, R130: after a change of default band, `postBand` for every interval whose band is absent, in ascending index. -/
def postUnclassified (s : State) : State :=
  (List.range s.log.intervals.length).foldl
    (fun s n => if (intervalAt s.log n).band.isNone then postBand n s else s) s

/-! ### The sample register (R106) -/

/-- R106: a record placed by its sample number. -/
def insertSample (r : Sample) : List Sample → List Sample
  | [] => [r]
  | x :: xs => if r.number < x.number then r :: x :: xs else x :: insertSample r xs

/-- R106: a sample handed to the register by the lag unit. -/
def registerSample (number origin : Nat) (status : SampleStatus) (caught : Bool) (s : State) : State :=
  s.setLog { s.log with samples := insertSample { number := number, origin := origin, status := status,
                                                  arrival := s.job.clock, caught := caught } s.log.samples }

/-! ### The drill-break detector (R113 to R115) -/

/-- R113: fast against a mean. -/
def isFast (ratio rate mean : Nat) : Bool := ratio * mean ≤ rate * 100

/-- R113: slow against a mean. -/
def isSlow (ratio rate mean : Nat) : Bool := rate * ratio ≤ mean * 100

/-- R113: the kind of a segment against a mean, if it is fast or slow. -/
def kindAgainst (ratio rate mean : Nat) : Option CandidateKind :=
  if isFast ratio rate mean then some .fast else if isSlow ratio rate mean then some .slow else none

/-- R111: a reference mean of 0 is treated as absent. -/
def usableMean : Option Nat → Option Nat
  | some 0 => none
  | m => m

/-- R113, "candidate absent": the candidate that a segment makes, if any. -/
def newCandidate (d : Detector) (top seconds rate : Nat) : Option Candidate :=
  match usableMean d.reference with
  | some m => (kindAgainst d.ratio rate m).map fun k => { top := top, seconds := seconds, kind := k, mean := m }
  | none => none

/-- R113: the segment is of the candidate's kind: a drill break is recognised. -/
def recognises (d : Detector) (rate : Nat) (c : Candidate) : Bool := kindAgainst d.ratio rate c.mean == some c.kind

/-- R114, steps 1 and 2, on the interval that closes at T: it gives up `mm`, `seconds` and 2 segments; where it holds fewer
seconds than that, 0 are left (log entry 40). -/
def closedAtBreak (t mm seconds : Nat) (x : Interval) : Interval :=
  { x with base := some t, boundary := .confirmed, drilledMm := x.drilledMm - mm,
           drilledSeconds := x.drilledSeconds - seconds, segments := x.segments - 2 }

/-- R114, step 2: the new OPEN interval from T, which takes the band and the band posted of the one it came from; R104: its
drilled seconds saturate. -/
def openedAtBreak (t mm seconds : Nat) (x : Interval) : Interval :=
  { top := t, base := none, boundary := .proposed, lithology := none, band := x.band, posted := x.posted,
    drilledMm := mm, drilledSeconds := min Config.max32 seconds, segments := 2, breakFlag := true, lossVolume := 0, strike := none }

/-- R114, step 5, R115: the detector after a recognised break: no candidate, and disarmed in mode SINGLE. -/
def afterBreak (d : Detector) (mean : Option Nat) : Detector :=
  { d with candidate := none, reference := mean, armed := d.armed && d.mode != .single }

/-- R114: a break recognised with room in the log, the segment just completed ending at `e` after `seconds`. -/
def breakInterval (c : Candidate) (e seconds : Nat) (s : State) : State :=
  let x := openInterval s.log
  let opened := openedAtBreak c.top (e - c.top) (c.seconds + seconds) x
  let g := modifyOpen (closedAtBreak c.top (e - c.top) (c.seconds + seconds)) s.log
  let g := { g with intervals := g.intervals ++ [opened] }
  let s := raise .drillBreak (openIndex g) c.top (s.setLog g)
  s.setLog (modifyDetector (fun d => afterBreak d (meanRate opened)) s.log)

/-- R115: a break recognised with 400 intervals in the log. -/
def breakLogFull (c : Candidate) (s : State) : State :=
  let g := modifyOpen (fun x => { x with breakFlag := true }) s.log
  let s := raise .logFull (openIndex g) c.top (s.setLog g)
  s.setLog (modifyDetector (fun d => afterBreak d (meanRate (openInterval s.log))) s.log)

/-- R113: a completed segment of the OPEN interval judged; `top` and `e` are its bounds. -/
def judgeSegment (top e seconds rate : Nat) (s : State) : State :=
  let d := s.log.detector
  let mean := meanRate (openInterval s.log)
  if d.mode = .off ∨ d.armed = false then
    s.setLog (modifyDetector (fun d => { d with candidate := none, reference := mean }) s.log)
  else
    match d.candidate with
    | some c =>
      if recognises d rate c then
        if s.log.intervals.length < Config.maxIntervals then breakInterval c e seconds s else breakLogFull c s
      else
        s.setLog (modifyDetector (fun d => { d with candidate := newCandidate d top seconds rate, reference := mean })
          s.log)
    | none =>
      s.setLog (modifyDetector (fun d => { d with candidate := newCandidate d top seconds rate, reference := mean })
        s.log)

/-! ### New hole (R108, R110) -/

/-- R110: the rate of a segment, mm/min. -/
def segmentRate (seconds : Nat) : Nat := 15000 / max 1 seconds

/-- R108: the ends of segments in (a, b], measured from the start depth, in ascending depth. -/
def segmentEnds (start a b : Nat) : List Nat :=
  let first := (a - start) / Config.segmentLength
  let last := (b - start) / Config.segmentLength
  (List.range (last - first)).map fun i => start + Config.segmentLength * (first + 1 + i)

/-- R110: the segment that ends at `e` completes. -/
def completeSegment (e : Nat) (s : State) : State :=
  let top := e - Config.segmentLength
  let seconds := s.log.segmentSeconds
  let rate := segmentRate seconds
  let n := indexAt s.log.intervals top
  let g := modifyInterval n (fun x => { x with segments := x.segments + 1 }) s.log
  let s := s.setLog { g with lastSegment := some { top := top, seconds := seconds, rate := rate } }
  let s := if n = openIndex s.log then judgeSegment top e seconds rate s else s
  s.setLog { s.log with segmentSeconds := 0 }

/-- R108: a length of new hole added to the drilled mm of the OPEN interval. -/
def addDrilled (mm : Nat) (s : State) : State :=
  s.setLog (modifyOpen (fun x => { x with drilledMm := x.drilledMm + mm }) s.log)

/-- R108: an increment handled from `a` over the segment ends in it, in ascending depth, to `b`. -/
def logIncrement (a b : Nat) : List Nat → State → State
  | [], s => addDrilled (b - a) s
  | e :: ends, s => logIncrement e b ends (completeSegment e (addDrilled (e - a) s))

/-- R109: one DRILLING second. -/
def drillingSecond (s : State) : State :=
  let g := modifyOpen (fun x => { x with drilledSeconds := satAdd Config.max32 x.drilledSeconds 1 }) s.log
  s.setLog { g with segmentSeconds := satAdd Config.max32 g.segmentSeconds 1 }

/-! ### Fluid and water (R122, R124) -/

/-- R122: a lost volume of `v` litres at depth `z`. -/
def chargeLoss (v z : Nat) (s : State) : State :=
  s.setLog (modifyInterval (indexAt s.log.intervals z)
    (fun x => { x with lossVolume := satAdd Config.max32 x.lossVolume v }) s.log)

/-- R124: an interval in which a proposal stands above what it holds. -/
def takesProposal (x : Interval) : Bool :=
  match x.strike with
  | some k => k.source == .gain
  | none => true

/-- R124: a water-strike proposal at depth `z`. -/
def proposeStrike (z : Nat) (s : State) : State :=
  let n := indexAt s.log.intervals z
  if takesProposal (intervalAt s.log n) then
    raise .waterStrikeProposed n z
      (s.setLog (modifyInterval n
        (fun x => { x with strike := some { depth := z, yieldRate := none, source := .gain } }) s.log))
  else s

/-! ### Entry to SETUP, and OPEN JOB -/

/-- R127: the segment seconds to 0 and the candidate cleared. -/
def logEnterSetup (s : State) : State :=
  s.setLog (modifyDetector (fun d => { d with candidate := none }) { s.log with segmentSeconds := 0 })

/-- R126: the log for a new job. -/
def logOpenJob (start : Nat) (defaultBand : Band) (g : StrataLog) : StrataLog :=
  { intervals := [freshInterval start defaultBand], samples := [], segmentSeconds := 0, lastSegment := none,
    detector := { mode := .single, ratio := g.detector.ratio, armed := true, reference := none, candidate := none } }

end Sys2Proof.Machine
end

