-- ==== Sys2Proof/Machine/LagOps.lean ====
section
/-! DEFINITION. Machine/LagOps.lean: the work of the lag unit that other blocks call: the annular volume (R88 to R90), the
issue of samples (R91, R92, R94, R95), arrivals (R97), and abandonment (R100). -/

namespace Sys2Proof.Machine

/-! ### Annular volume (R88, R89)

A stretch is a pair (length in mm, what is constant over it). Both the string and the hole are laid out as lists of
stretches from the bit upward. -/

/-- The first `z` mm of a list of stretches. -/
def clip {α : Type} : Nat → List (Nat × α) → List (Nat × α)
  | _, [] => []
  | z, (n, x) :: rest => if n < z then (n, x) :: clip (z - n) rest else [(z, x)]

/-- The total length of a list of stretches. -/
def spanOf {α : Type} (xs : List (Nat × α)) : Nat := (xs.map Prod.fst).sum

/-- R88: the components from the bottom up, each with its length and OD: the BHA, then the rods of the stack. -/
def componentList (s : State) : List (Nat × Nat) :=
  s.tally.bha.map (fun c => (c.length, c.od)) ++
    s.tally.stack.map fun r =>
      match findRod s.rack.rods r with
      | some r => (r.length, r.od)
      | none => (0, 0)

/-- R88: the outside diameter over [0, z], from the bit upward: components cut at the table, and 0 above the string. -/
def odStretches (components : List (Nat × Nat)) (z : Nat) : List (Nat × Nat) :=
  clip z components ++ [(z - spanOf components, 0)]

/-- R86: the bores of the sections from the table down, each with its section's height. -/
def sectionStretches : Nat → List Section → List (Nat × Nat)
  | _, [] => []
  | top, x :: rest => (x.base - top, x.bore) :: sectionStretches x.base rest

/-- R90: the base of the last section. -/
def programBase (program : List Section) : Nat := (program.getLast?.map Section.base).getD 0

/-- R90: the bore of the last section. -/
def lastBore (program : List Section) : Nat := (program.getLast?.map Section.bore).getD 0

/-- R86, R90: the bore over [0, z], from the bit upward; depths below the program take the bore of the last section. -/
def boreStretches (program : List Section) (z : Nat) : List (Nat × Nat) :=
  (clip z (sectionStretches 0 program) ++ [(z - programBase program, lastBore program)]).reverse

/-- Two lists of stretches over one range, cut at each other's ends; the fuel is the number of stretches. -/
def overlay {α β : Type} : Nat → List (Nat × α) → List (Nat × β) → List (Nat × α × β)
  | 0, _, _ => []
  | fuel + 1, (n, x) :: xs, (m, y) :: ys =>
    if n < m then (n, x, y) :: overlay fuel xs ((m - n, y) :: ys)
    else if m < n then (m, x, y) :: overlay fuel ((n - m, x) :: xs) ys
    else (n, x, y) :: overlay fuel xs ys
  | _ + 1, _, _ => []

/-- R89: stretches joined where neither diameter changes, so that each is maximal. -/
def joinStretches : List (Nat × Nat × Nat) → List (Nat × Nat × Nat)
  | [] => []
  | (n, x) :: rest =>
    match joinStretches rest with
    | (m, y) :: more => if x = y then (n + m, x) :: more else (n, x) :: (m, y) :: more
    | [] => [(n, x)]

/-- R89: the pieces of [0, z] from the bit upward: length, OD, bore. -/
def piecesOf (s : State) (z : Nat) : List (Nat × Nat × Nat) :=
  let od := (odStretches (componentList s) z).filter fun x => x.1 != 0
  let bore := (boreStretches s.lag.program z).filter fun x => x.1 != 0
  joinStretches (overlay (od.length + bore.length) od bore)

/-- R89, step 1: the capacity of a piece, mL per metre. -/
def capacity (bore od : Nat) : Nat := if bore ≤ od then 0 else (bore ^ 2 - od ^ 2) * 7854 / 10000

/-- R89, step 2: the volume of a piece, mL. -/
def pieceVolume (p : Nat × Nat × Nat) : Nat := capacity p.2.2 p.2.1 * p.1 / 1000

/-- R89: V_a, the sum of the piece volumes. -/
def annularVolume (s : State) (z : Nat) : Nat := ((piecesOf s z).map pieceVolume).sum

/-! ### Samples -/

/-- R91: the marks in (a, b], in ascending depth. -/
def marksIn (start interval a b : Nat) : List Nat :=
  let first := (a - start) / interval
  let last := (b - start) / interval
  (List.range (last - first)).map fun k => start + interval * (first + 1 + k)

/-- R94: the greatest target in the queue, that of its last timed entry. -/
def lastTarget (queue : List LagEntry) : Option Nat := (queue.filterMap LagEntry.target).getLast?

/-- R94: the target of an entry, raised to that of the nearest timed entry ahead; absent for an untimed one. -/
def targetOf (s : State) (annular : Option Nat) : Option Nat :=
  if !s.circ.pump1.present && !s.circ.pump2.present then none
  else annular.map fun v => max (volume64 (s.circ.pumped + v)) ((lastTarget s.lag.queue).getD 0)

/-- R92: one mark crossed: a sample issued to the queue, or straight to the register when the queue is full. -/
def issueSample (annular : Option Nat) (s : State) (mark : Nat) : State :=
  let number := s.lag.nextSample
  if Config.maxLag ≤ s.lag.queue.length then
    raise .sampleMissed number mark
      (registerSample number mark .missed false (s.setLag { s.lag with nextSample := number + 1 }))
  else
    s.setLag { s.lag with
      nextSample := number + 1,
      queue := s.lag.queue ++
        [{ number := number, origin := mark, issued := s.job.clock, target := targetOf s annular,
           quality := worstChannel s.circ, strokesHeld := strokesRejected s.circ }] }

/-- R90: BELOW_PROGRAM at the first issue below the last section. -/
def noteBelowProgram (z : Nat) (s : State) : State :=
  if !s.lag.program.isEmpty && programBase s.lag.program < z && !s.lag.belowProgram then
    raise .belowProgram s.lag.program.length z (s.setLag { s.lag with belowProgram := true })
  else s

/-- R92: the lag unit's work on an increment (a, b]: V_p and V_a formed once, then every mark in depth order. -/
def issueSamples (a b : Nat) (s : State) : State :=
  match marksIn (startDepth s) (s.job.interval.getD 0) a b with
  | [] => s
  | marks =>
    let annular := if s.lag.program.isEmpty then none else some (annularVolume s (bitDepthGiven s))
    marks.foldl (issueSample annular) (noteBelowProgram (bitDepthGiven s) s)

/-! ### Arrivals (R97) -/

/-- R97: the status of an arrival by the returns values and the entry. -/
def arrivalStatus (g : Lag) (e : LagEntry) : SampleStatus :=
  if g.returnsLoss || g.returnsFlowOut == some 0 then .noReturns
  else if e.strokesHeld then .estimated
  else .returns

/-- R97, R98: an entry that has left the queue arrives with a status, and SAMPLE_DUE is raised. -/
def arrive (e : LagEntry) (status : SampleStatus) (caught : Bool) (s : State) : State :=
  raise .sampleDue e.number e.origin (registerSample e.number e.origin status caught s)

/-- R97: the head is timed and its target is reached. -/
def headDue (s : State) : Option LagEntry :=
  match s.lag.queue with
  | e :: _ =>
    match e.target with
    | some t => if t ≤ s.circ.pumped then some e else none
    | none => none
  | [] => none

/-- R97: the head leaves the queue and arrives, if it is due. -/
def releaseHead (s : State) : State :=
  match headDue s with
  | some e => arrive e (arrivalStatus s.lag e) false (s.setLag { s.lag with queue := s.lag.queue.tail })
  | none => s

/-- R97: arrivals released until the queue is empty or its head is not due; the fuel is the length of the queue. -/
def releaseUpTo : Nat → State → State
  | 0, s => s
  | fuel + 1, s => if (headDue s).isSome then releaseUpTo fuel (releaseHead s) else s

/-- R97: the release of arrivals. -/
def releaseArrivals (s : State) : State := releaseUpTo s.lag.queue.length s

/-- R95: a queued entry sees the channel states of a report. -/
def seeChannels (c : Circ) (e : LagEntry) : LagEntry :=
  { e with quality := e.quality.worse (worstChannel c), strokesHeld := e.strokesHeld || strokesRejected c }

/-- R80, R95 to R97: the hand-off after a report, with the FLOW_OUT value used in it. -/
def lagHandOff (flowOutUsed : Nat) (s : State) : State :=
  releaseArrivals (s.setLag { s.lag with queue := s.lag.queue.map (seeChannels s.circ), returnsLoss := s.circ.loss,
                                         returnsFlowOut := some flowOutUsed })

/-- R100: every entry leaves the queue, head first, as ABANDONED, with no notice. -/
def abandonQueue (s : State) : State :=
  (s.lag.queue.foldl (fun s e => registerSample e.number e.origin .abandoned false s) s).setLag
    { s.lag with queue := [] }

end Sys2Proof.Machine
end

