-- ==== Sys2Proof/Machine/ModeOps.lean ====
section
/-! DEFINITION. Machine/ModeOps.lean: changes of mode (R165, R175), the re-check of a pending mode request (R173), wake
events (R177, R178), and the handling of a request from its arrival to the end of its wake events. -/

namespace Sys2Proof.Machine

/-! ### Entering SETUP (R175) -/

/-- R82: the streaks to 0, and LOSS or GAIN cleared with its notice. -/
def circEnterSetup (s : State) : State :=
  let loss := s.circ.loss
  let gain := s.circ.gain
  let s := s.setCirc { s.circ with lossStreak := 0, gainStreak := 0, balancedStreak := 0, loss := false, gain := false }
  raiseIf gain .gain 0 (bitDepthGiven s) (raiseIf loss .loss 0 (bitDepthGiven s) s)

/-- R175: the three steps, in order. -/
def enterSetupSteps (s : State) : State := logEnterSetup (circEnterSetup (abandonQueue s))

/-! ### Changing the mode (R165) -/

/-- R165: a change of mode: the permits re-evaluated, the steps of R175 for SETUP, then MODE_CHANGED. A mode already held
is left as it is. -/
def setMode (m : Mode) (s : State) : State :=
  let old := s.modes.mode
  if m = old then s
  else
    let s := drivePermits (s.setModes { s.modes with mode := m })
    raise .modeChanged m.code old.code (if m = .setup then enterSetupSteps s else s)

/-- The pending mode request emptied. -/
def dropPending (s : State) : State := s.setModes { s.modes with request := none }

/-- R173: the pending mode request re-checked, and taken if its condition holds. -/
def recheck (s : State) : State :=
  match s.modes.request with
  | some r => if pendingHolds s r then setMode r.target (dropPending s) else s
  | none => s

/-- R167: a mode request taken with reply OK: the pending mode request is emptied and the mode is the one named. -/
def takeMode (m : Mode) (s : State) : State := setMode m (dropPending s)

/-- R167, R168, R171: a mode request that goes pending, replacing any held before, with MODE_PENDING. -/
def goPending (target : Mode) (origin : Port) (failing : Nat) (s : State) : Response :=
  { taken (raise .modePending target.code failing
      (s.setModes { s.modes with request := some { target := target, origin := origin } })) with code := .pending }

/-! ### Wake events (R177, R178) -/

/-- R178: a wake event handed to mode control, judged against the mode held now. -/
def wakeEvent (w : WakeSource) (s : State) : State :=
  let f := s.modes.flags w
  if s.modes.mode = .standby then
    let s := raiseIf f.notice .standbyEvent w.number f.wake.toNat s
    if f.wake then recheck (setMode .watch s) else s
  else s

/-- R178: several wake events, in order. -/
def wakeEvents (ws : List WakeSource) (s : State) : State := ws.foldl (fun s w => wakeEvent w s) s

/-- R177: the wake event that a request is by its port and code: none for a read, for MUD, and for a mode request or
CANCEL MODE from RECORD. -/
def requestWake (p : Port) (code : Nat) : List WakeSource :=
  if 128 ≤ code then []
  else
    match p with
    | .floor => [.floorActivity]
    | .mud => []
    | .record => if 80 ≤ code ∧ code ≤ 84 then [] else [.recordRequest]

/-! ### Handling a request -/

/-- What the part's own work does while it runs; while RESET is held, and in the dark, none is done (R197). -/
def whileRunning (f : State → State) (s : State) : Host.Outcome State Fault Refusal :=
  match s.power with
  | .running => .next (f s)
  | _ => .next s

/-- R180, R197: what a write transaction on a port does to a running part; with RESET held it is discarded, and shifts out
zeros; in the dark nothing happens. -/
def writeTransaction (p : Port) (f : State → State) (s : State) : Host.Outcome State Fault Refusal :=
  match s.power with
  | .running => .next (f s)
  | .resetHeld => .next (shiftZeros p s)
  | .off => .next s
  | .offResetHeld => .next s

/-- R178, R185, R187: a request handled: its rule's response, the reply placed in the port's slot, then its wake events,
judged against the mode that the request itself has left (log entry 41). -/
def respond (p : Port) (code : Nat) (body : State → Response) (s : State) : State :=
  let r := body s
  wakeEvents (requestWake p code ++ r.wakes) (placeReply p code r.code r.payload r.state)

/-- A request of the index of 10.8. -/
def request (p : Port) (code : Nat) (body : State → Response) (s : State) : Host.Outcome State Fault Refusal :=
  writeTransaction p (respond p code body) s

/-- A read that changes no state of the part, open to all three ports in every mode (R188), with its own checks. -/
def readRequest (p : Port) (code : Nat) (checks : State → List (Bool × ReplyCode)) (payload : State → List Byte)
    (s : State) : Host.Outcome State Fault Refusal :=
  request p code (fun s => checked (checks s) s (answered (payload s) s)) s

end Sys2Proof.Machine
end

