-- ==== Sys2Proof/Machine/Circulation.lean ====
section
/-! DEFINITION. Machine/Circulation.lean: the requests of chapter 4, Circulation Accounting, the six stages of a circulation
report (R66), and staleness (CIRC_STALE). -/

namespace Sys2Proof.Machine

/-! ### Configuration -/

/-- R62, R63: a displacement is 0 or 1,000–40,000 mL. -/
def displacementOk (d : Nat) : Bool := d == 0 || (inRange 1000 40000 d).isSome

/-- R63: the record of one pump replaced. -/
def setPumpRecord (pump : Nat) (x : Pump) (c : Circ) : Circ :=
  if pump = 1 then { c with pump1 := x } else { c with pump2 := x }

/-- SET_PUMP (R63). -/
def execSetPump (p : Port) (pump displacement efficiency maxRate : Nat) (s : State) :
    Host.Outcome State Fault Refusal :=
  request p 40 (fun s =>
    checked
      [onlyFrom [.mud] p, onlyInSetup s,
       ((inRange 1 2 pump).isNone || !displacementOk displacement || (inRange 500 1000 efficiency).isNone ||
          (inRange 10 200 maxRate).isNone, .outOfRange)] s
      (taken (s.setCirc (setPumpRecord pump
        { displacement := displacement, efficiency := efficiency, maxRate := maxRate } s.circ)))) s

/-- SET_CIRCULATION_LIMITS (R64). -/
def execSetCirculationLimits (p : Port) (loss gain flowOutMax pitStep : Nat) (s : State) :
    Host.Outcome State Fault Refusal :=
  request p 41 (fun s =>
    checked
      [onlyFrom [.mud] p, onlyInSetup s,
       ((inRange 10 1000 loss).isNone || (inRange 10 1000 gain).isNone || (inRange 100 6000 flowOutMax).isNone ||
          (inRange 10 10000 pitStep).isNone, .outOfRange)] s
      (taken (s.setCirc { s.circ with lossThreshold := loss, gainThreshold := gain, flowOutMax := flowOutMax,
                                      pitStep := pitStep }))) s

/-! ### Stage 1: channels (R67 to R71) -/

/-- R67: the channels by number: 1 P1 strokes, 2 P2 strokes, 3 FLOW_OUT, 4 PIT. -/
def channelAt (c : Circ) : Nat → Channel
  | 1 => c.p1
  | 2 => c.p2
  | 3 => c.flowOut
  | _ => c.pit

/-- One channel record replaced. -/
def setChannel (n : Nat) (x : Channel) (c : Circ) : Circ :=
  match n with
  | 1 => { c with p1 := x }
  | 2 => { c with p2 := x }
  | 3 => { c with flowOut := x }
  | _ => { c with pit := x }

/-- R67: the state that a counter gives a channel that is not REJECTED. -/
def trustOf (counter : Nat) : Trust := if 256 ≤ counter then .rejected else if 96 ≤ counter then .suspect else .ok

/-- R69: the counter of an OK or SUSPECT channel after a reading. -/
def countReading (plausible : Bool) (counter : Nat) : Nat :=
  if plausible then counter - 1 else min 256 (counter + 8)

/-- R69, R70: a channel's counter, state and recovery count after a reading. -/
def judgeReading (plausible : Bool) (x : Channel) : Channel :=
  if x.state = .rejected then
    if !plausible then { x with recovery := 0 }
    else if x.recovery + 1 < 128 then { x with recovery := x.recovery + 1 }
    else { x with counter := 0, state := .ok, recovery := 0 }
  else
    let counter := countReading plausible x.counter
    { x with counter := counter, state := trustOf counter,
             recovery := if 256 ≤ counter then 0 else x.recovery }

/-- R69, R70: the notice that a reading raises, from the channel before and after it. -/
def channelNotice (n : Nat) (before after : Channel) (s : State) : State :=
  match before.state, after.state with
  | .rejected, .rejected => s
  | .rejected, _ => raise .channelRecovered n 128 s
  | _, .rejected => raise .channelRejected n 256 s
  | .ok, .suspect => raise .channelSuspect n after.counter s
  | _, _ => s

/-- R71: an OK or SUSPECT channel keeps a plausible value as its last plausible one. -/
def keepPlausible (plausible : Bool) (value : Nat) (x : Channel) : Channel :=
  if plausible && x.state != .rejected then { x with last := some value } else x

/-- R68: a strokes reading is plausible (that of an absent pump always is). -/
def strokesPlausible (pump : Pump) (strokes e : Nat) : Bool :=
  !pump.present || strokes ≤ pump.maxRate * e / 60 + 1

/-- R68: a PIT reading is plausible. -/
def pitPlausible (c : Circ) (pit : Nat) : Bool :=
  match c.pit.reference with
  | some r => pit - r ≤ c.pitStep && r - pit ≤ c.pitStep
  | none => true

/-- R68: the PIT reference after a report. -/
def pitReference (pit : Nat) (x : Channel) : Channel :=
  { x with reference := if x.state = .rejected then some pit else x.last }

/-- R69 to R71: one channel's record and notice after a reading, whose kept value is `value`. -/
def judgeChannel (n : Nat) (plausible : Bool) (value : Nat) (s : State) : State :=
  let before := channelAt s.circ n
  let after := keepPlausible plausible value (judgeReading plausible before)
  channelNotice n before after (s.setCirc (setChannel n after s.circ))

/-- R66, stage 1: the four channels judged in order, and the PIT reference set (R68). -/
def judgeChannels (p1 p2 flowOut pit e : Nat) (s : State) : State :=
  let s := judgeChannel 1 (strokesPlausible s.circ.pump1 p1 e) (p1 * 1000 / e) s
  let s := judgeChannel 2 (strokesPlausible s.circ.pump2 p2 e) (p2 * 1000 / e) s
  let s := judgeChannel 3 (flowOut ≤ s.circ.flowOutMax) flowOut s
  let s := judgeChannel 4 (pitPlausible s.circ pit) pit s
  s.setCirc { s.circ with pit := pitReference pit s.circ.pit }

/-- R71: the strokes used of a strokes channel. -/
def strokesUsed (x : Channel) (strokes e : Nat) : Nat :=
  if x.state = .rejected then x.last.getD 0 * e / 1000 else strokes

/-- R71: the value used of FLOW_OUT or PIT. -/
def valueUsed (x : Channel) (value : Nat) : Nat := if x.state = .rejected then x.last.getD value else value

/-! ### Stages 2 and 3: volume, flow-in, status (R72, R73) -/

/-- R72: the report volume, mL. -/
def reportVolume (c : Circ) (p1 p2 e : Nat) : Nat :=
  strokesUsed c.p1 p1 e * c.pump1.strokeVolume + strokesUsed c.p2 p2 e * c.pump2.strokeVolume

/-- R72: flow-in, L/min. -/
def flowInOf (volume e : Nat) : Nat := volume * 60 / (e * 1000)

/-- R66, stage 2: V_p grows only while a job is open. -/
def addVolume (volume e : Nat) (s : State) : State :=
  s.setCirc { s.circ with pumped := if s.job.isOpen then volume64 (s.circ.pumped + volume) else s.circ.pumped,
                          flowIn := flowInOf volume e, lastE := some e, lastVolume := some volume }

/-- R73: the circulation status becomes `x`; a change is handed at once to mode control. -/
def setStatus (x : CircStatus) (s : State) : State :=
  if s.circ.status = x then s else recheck (s.setCirc { s.circ with status := x })

/-! ### Stage 4: the balance (R75 to R77) -/

/-- R75: the flow-out used by the balance; none while the balance is suspended. -/
def flowOutChosen (c : Circ) (flowOut pit e : Nat) : Option Int :=
  if c.flowOut.state ≠ .rejected then some (valueUsed c.flowOut flowOut : Nat)
  else if c.pit.state = .rejected then none
  else
    let change : Int := (valueUsed c.pit pit : Int) - (c.previousPit.getD (valueUsed c.pit pit) : Int)
    some ((c.flowIn : Int) + (change * 60).fdiv (e : Int))

/-- R76: one streak longer; each stops at 255. -/
def streakUp (n : Nat) : Nat := satAdd 255 n 1

/-- R76: the three streaks after a report, from the difference d, none while the balance is suspended. -/
def moveStreaks (d : Option Int) (c : Circ) : Circ :=
  match d with
  | none => { c with lossStreak := 0, gainStreak := 0, balancedStreak := 0 }
  | some d =>
    if (c.lossThreshold : Int) < d then
      { c with lossStreak := streakUp c.lossStreak, gainStreak := 0, balancedStreak := 0 }
    else if (c.gainThreshold : Int) < -d then
      { c with gainStreak := streakUp c.gainStreak, lossStreak := 0, balancedStreak := 0 }
    else { c with lossStreak := 0, gainStreak := 0, balancedStreak := streakUp c.balancedStreak }

/-- R77: LOSS cleared, with its notice, where it is set. -/
def clearLoss (s : State) : State :=
  if s.circ.loss then raise .loss 0 (bitDepthGiven s) (s.setCirc { s.circ with loss := false }) else s

/-- R77: GAIN cleared, with its notice, where it is set. -/
def clearGain (s : State) : State :=
  if s.circ.gain then raise .gain 0 (bitDepthGiven s) (s.setCirc { s.circ with gain := false }) else s

/-- R77: the alarms set and cleared by the streaks; a suspended balance touches neither (R76). -/
def updateAlarms (s : State) : State :=
  if s.circ.lossStreak = 16 ∧ s.circ.loss = false then
    let s := clearGain s
    raise .loss 1 (bitDepthGiven s) (s.setCirc { s.circ with loss := true })
  else if s.circ.gainStreak = 16 ∧ s.circ.gain = false then
    let s := clearLoss s
    raise .gain 1 (bitDepthGiven s) (s.setCirc { s.circ with gain := true })
  else if s.circ.balancedStreak = 16 then clearGain (clearLoss s)
  else s

/-- R66, stage 4. The last d stays where the balance is suspended and none is formed (log entry 22). -/
def balance (flowOut pit e : Nat) (s : State) : State :=
  let chosen := flowOutChosen s.circ flowOut pit e
  let d := chosen.map fun out => (s.circ.flowIn : Int) - out
  let c := moveStreaks d s.circ
  updateAlarms (s.setCirc { c with flowOutUsed := chosen, lastD := if d.isSome then d else c.lastD,
                                   previousPit := some (valueUsed c.pit pit) })

/-! ### Stages 5 and 6: the strata log, the lag unit, mode control (R78 to R81) -/

/-- R78: the lost volume of a report, litres. -/
def lostVolume (d : Option Int) (e : Nat) : Nat := (d.getD 0).toNat * e / 60

/-- R66, stage 5: lost volume while LOSS is set, and a proposal when this report has set GAIN. -/
def tellStrata (d : Option Int) (e : Nat) (gainSet : Bool) (s : State) : State :=
  let s := if s.job.isOpen && s.circ.loss && lostVolume d e != 0 then chargeLoss (lostVolume d e) (bitDepthGiven s) s
           else s
  if s.job.isOpen && gainSet then proposeStrike (bitDepthGiven s) s else s

/-- R81: the wake events of a report. -/
def reportWakes (c : Circ) (p1 p2 flowOut : Nat) : List WakeSource :=
  (if 0 < p1 ∨ 0 < p2 then [.circulation] else []) ++
  (if c.gainThreshold < flowOut ∧ c.flowIn = 0 then [.artesian] else [])

/-- R65: the elapsed time of a report. -/
def reportElapsed (s : State) : Nat :=
  match s.circ.reportSecond with
  | some t => max 1 (elapsed s.seconds t)
  | none => 1

/-- R66: a report worked through its stages. -/
def reportTaken (p1 p2 flowOut pit : Nat) (s : State) : Response :=
  let e := reportElapsed s
  let s := s.setCirc { s.circ with reportSecond := some s.seconds }
  let s := judgeChannels p1 p2 flowOut pit e s
  let s := addVolume (reportVolume s.circ p1 p2 e) e s
  let s := setStatus (if 0 < s.circ.flowIn then .on else .off) s
  let gainBefore := s.circ.gain
  let d := (flowOutChosen s.circ flowOut pit e).map fun out => (s.circ.flowIn : Int) - out
  let s := balance flowOut pit e s
  let s := tellStrata d e (!gainBefore && s.circ.gain) s
  let s := lagHandOff (valueUsed s.circ.flowOut flowOut) s
  { taken s with wakes := reportWakes s.circ p1 p2 flowOut }

/-- CIRCULATION (R65, R66). -/
def execCirculation (p : Port) (p1 p2 flowOut pit : Nat) (s : State) : Host.Outcome State Fault Refusal :=
  request p 42 (fun s =>
    checked [onlyFrom [.mud] p, (6000 < flowOut || 60000 < pit, .outOfRange)] s (reportTaken p1 p2 flowOut pit s)) s

/-- ADDITIVE (R83). -/
def execAdditive (p : Port) (item units : Nat) (s : State) : Host.Outcome State Fault Refusal :=
  request p 43 (fun s =>
    checked
      [onlyFrom [.mud] p, (s.modes.mode == .setup || s.modes.mode == .standby, .wrongMode),
       (7 < item || (inRange 1 255 units).isNone, .outOfRange), (!s.job.isOpen, .incomplete)] s
      (taken (accrueAdditive item units s))) s

/-! ### Staleness (R74) -/

/-- R74: 10 seconds have passed since the report second, and the status is ON or OFF. -/
def staleDue (s : State) : Bool :=
  s.circ.status != .stale &&
    match s.circ.reportSecond with
    | some t => 10 ≤ elapsed s.seconds t
    | none => false

/-- R74: the status becomes STALE and the streaks 0; the alarms keep their state. -/
def makeStale (s : State) : State :=
  if staleDue s then
    recheck (raise .circStale 0 (s.circ.reportSecond.getD 0)
      (s.setCirc { s.circ with status := .stale, lossStreak := 0, gainStreak := 0, balancedStreak := 0 }))
  else s

/-- CIRC_STALE (R74): no effect where the status is not due to become STALE (log entry 7). -/
def execCircStale (s : State) : Host.Outcome State Fault Refusal := whileRunning makeStale s

/-! ### Reads (R84) -/

/-- R84: what READ CIRCULATION returns. -/
def circulationBytes (c : Circ) : List Byte :=
  num1 c.status.code ++ num8 c.pumped ++ optional 4 num4 c.reportSecond ++ optional 4 num4 c.lastE ++
    optional 4 num4 c.lastVolume ++ num4 c.flowIn ++ optional 4 int4 c.flowOutUsed ++ optional 4 int4 c.lastD ++
    num1 c.lossStreak ++ num1 c.gainStreak ++ num1 c.balancedStreak ++ flag c.loss ++ flag c.gain ++
    num1 c.p1.state.code ++ num1 c.p2.state.code ++ num1 c.flowOut.state.code ++ num1 c.pit.state.code

/-- READ_CIRCULATION (R84). -/
def execReadCirculation (p : Port) (s : State) : Host.Outcome State Fault Refusal :=
  readRequest p 152 (fun _ => []) (fun s => circulationBytes s.circ) s

/-- R84: what READ CHANNEL returns after the state and counts (log entry 15). -/
def channelValueBytes (n : Nat) (x : Channel) : List Byte :=
  if n = 4 then optional 2 num2 x.last ++ optional 2 num2 x.reference
  else if n = 3 then num2 (x.last.getD 0)
  else num4 (x.last.getD 0)

/-- READ_CHANNEL (R84). -/
def execReadChannel (p : Port) (channel : Nat) (s : State) : Host.Outcome State Fault Refusal :=
  readRequest p 153 (fun _ => [((inRange 1 4 channel).isNone, .outOfRange)])
    (fun s =>
      let x := channelAt s.circ channel
      num2 x.counter ++ num1 x.state.code ++ num1 x.recovery ++ channelValueBytes channel x) s

/-- R84: one pump record. -/
def pumpBytes (x : Pump) : List Byte := num2 x.displacement ++ num2 x.efficiency ++ num1 x.maxRate

/-- READ_PUMPS (R84). -/
def execReadPumps (p : Port) (s : State) : Host.Outcome State Fault Refusal :=
  readRequest p 154 (fun _ => [])
    (fun s =>
      pumpBytes s.circ.pump1 ++ pumpBytes s.circ.pump2 ++ num4 s.circ.pump1.strokeVolume ++
        num4 s.circ.pump2.strokeVolume ++ num2 s.circ.lossThreshold ++ num2 s.circ.gainThreshold ++
        num2 s.circ.flowOutMax ++ num2 s.circ.pitStep) s

end Sys2Proof.Machine
end

