-- ==== Sys2Proof/Machine/DepthOps.lean ====
section
/-! DEFINITION. Machine/DepthOps.lean: the depth computation (R50 to R55) and the new-hole increment (R56). -/

namespace Sys2Proof.Machine

/-- R56: an increment (a, b] handed to the lag unit, the strata log and the metering unit. The metering unit's band is that
of the OPEN interval when the increment is handed over (R134). -/
def handIncrement (a b : Nat) (s : State) : State :=
  let band := effectiveBand s.meter.card (openInterval s.log)
  let s := issueSamples a b s
  let s := logIncrement a b (segmentEnds (startDepth s) a b) s
  accrueFootage band a b s

/-- R53, R55: the new hole depth that a raw bit depth below `hole` gives when all three advance conditions hold. -/
def advancedHole (raw hole : Nat) : Nat := if hole < Config.holeCap then min raw Config.holeCap else hole

/-- R53, R55: the hole advanced, the increment handed on, and DEPTH_LIMIT raised where the cap stops the advance. -/
def advanceHole (raw hole : Nat) (s : State) : State :=
  let new := advancedHole raw hole
  let capped : Bool := decide (new < raw)
  let raising := capped && !s.depth.limit
  let s := s.setDepth { s.depth with bit := some new, hole := some new, disagree := s.depth.disagree && capped,
                                     limit := s.depth.limit && capped }
  let s := if hole < new then handIncrement hole new s else s
  if raising then raise .depthLimit 0 raw (s.setDepth { s.depth with limit := true }) else s

/-- R53, R54: bit depth clamped to the hole, and DEPTH_DISAGREE raised once in the excursion, beyond 500 mm. -/
def clampToHole (raw hole : Nat) (s : State) : State :=
  let raising := decide (hole + 500 < raw) && !s.depth.disagree
  let failing := advanceFailing s
  let s := s.setDepth { s.depth with bit := some hole, disagree := s.depth.disagree || raising,
                                     limit := s.depth.limit && decide (Config.holeCap < raw) }
  raiseIf raising .depthDisagree failing raw s

/-- R53: the step after the zero clamp. -/
def holeStep (raw : Nat) (s : State) : State :=
  match s.job.isOpen, s.depth.hole with
  | true, some hole =>
    if raw ≤ hole then s.setDepth { s.depth with bit := some raw, disagree := false, limit := false }
    else if advanceFailing s = 0 then advanceHole raw hole s
    else clampToHole raw hole s
  | _, _ => s.setDepth { s.depth with bit := some raw }

/-- R50, R51: the depth computation. With no string-top height there is no raw bit depth, and nothing changes. Above the
table bit depth is 0 and, while a job is open, the excursion ends (R54, R55; log entry 20). -/
def depthCompute (s : State) : State :=
  match s.depth.stringTop with
  | none => s
  | some top =>
    let raw : Int := stringLength s - top
    if raw < 0 then
      s.setDepth { s.depth with raw := some raw, bit := some 0, aboveTable := true,
                                disagree := s.depth.disagree && !s.job.isOpen,
                                limit := s.depth.limit && !s.job.isOpen }
    else holeStep raw.toNat (s.setDepth { s.depth with raw := some raw, aboveTable := false })

end Sys2Proof.Machine
end

