-- ==== Sys2Proof/Machine/DepthRequests.lean ====
section
/-! DEFINITION. Machine/DepthRequests.lean: the requests of chapter 3, Depth and Rig Activity. -/

namespace Sys2Proof.Machine

/-- R45, R47, R49: block height and rotation, and the string-top height where it is absent or follows the block. -/
def blockTaken (h : Nat) (rotation : Bool) (s : State) : State :=
  let top := if s.depth.stringTop.isNone || following s.tally then some (h : Int) else s.depth.stringTop
  depthCompute (s.setDepth { s.depth with block := some h, rotation := rotation, stringTop := top })

/-- BLOCK (R45). -/
def execBlock (p : Port) (height rotation : Nat) (s : State) : Host.Outcome State Fault Refusal :=
  request p 32 (fun s =>
    checked [onlyFrom [.floor] p, (40000 < height || (switchOf rotation).isNone, .outOfRange)] s
      (taken (blockTaken height ((switchOf rotation).getD false) s))) s

/-- DOWN_START (R59). -/
def execDownStart (p : Port) (s : State) : Host.Outcome State Fault Refusal :=
  request p 33 (fun s =>
    checked [onlyFrom [.floor, .record] p] s (taken (s.setDepth { s.depth with down := true }))) s

/-- DOWN_END (R59). -/
def execDownEnd (p : Port) (s : State) : Host.Outcome State Fault Refusal :=
  request p 34 (fun s =>
    checked [onlyFrom [.floor, .record] p] s (taken (s.setDepth { s.depth with down := false }))) s

/-- R61: what READ DEPTH returns. -/
def depthBytes (s : State) : List Byte :=
  optional 2 num2 s.depth.block ++ flag s.depth.rotation ++ optional 4 int4 s.depth.stringTop ++
    flag (!following s.tally) ++ optional 4 num4 s.depth.bit ++ flag s.depth.aboveTable ++
    optional 4 num4 s.depth.hole ++ flag s.job.isOpen ++ flag (onBottom s) ++ flag s.depth.down ++
    num1 s.depth.activity.code ++ flag s.depth.disagree ++ flag s.depth.limit

/-- READ_DEPTH (R61). -/
def execReadDepth (p : Port) (s : State) : Host.Outcome State Fault Refusal :=
  readRequest p 144 (fun _ => []) depthBytes s

end Sys2Proof.Machine
end

