-- ==== Sys2Proof/Machine/Tally.lean ====
section
/-! DEFINITION. Machine/Tally.lean: the requests of chapter 2, The String Tally, and its two events: the expiry of a stab
(MAKEUP_EXPIRED) and the second disagreeing comparison of a permit (PERMIT_FAULT). -/

namespace Sys2Proof.Machine

/-! ### Configuration -/

/-- R18, R19: one component of a SET BHA request, none where a field is refused. -/
def componentOf (c : BhaField) : Option Component :=
  match componentKindOf c.kind, inRange 100 20000 c.length, inRange 40 700 c.od with
  | some kind, some length, some od => some { kind := kind, length := length, od := od }
  | _, _, _ => none

/-- The components of a SET BHA request; none if any is refused. -/
def componentsOf : List BhaField → Option (List Component)
  | [] => some []
  | c :: cs =>
    match componentOf c, componentsOf cs with
    | some x, some xs => some (x :: xs)
    | _, _ => none

/-- R18: a bit at the bottom, and no bit above it. -/
def bitAtBottom : List Component → Bool
  | [] => false
  | x :: xs => x.kind == .bit && xs.all fun y => y.kind != .bit

/-- R19, check 1: the BHA that a request gives, none where it is refused OUT_OF_RANGE. -/
def bhaGiven (components : List BhaField) : Option (List Component) :=
  if components.length = 0 ∨ 6 < components.length then none
  else
    match componentsOf components with
    | some xs => if bitAtBottom xs then some xs else none
    | none => none

/-- SET_BHA (R19). -/
def execSetBha (p : Port) (components : List BhaField) (s : State) : Host.Outcome State Fault Refusal :=
  request p 16 (fun s =>
    checked
      [onlyFrom [.floor] p, onlyInSetup s, ((bhaGiven components).isNone, .outOfRange),
       (!s.tally.stack.isEmpty || s.tally.state == .unresolved, .busy)] s
      (taken (depthCompute (s.setTally { s.tally with bha := (bhaGiven components).getD [] })))) s

/-- SET_MAKEUP_LIMITS (R34). -/
def execSetMakeupLimits (p : Port) (minimum maximum : Nat) (s : State) : Host.Outcome State Fault Refusal :=
  request p 28 (fun s =>
    checked
      [onlyFrom [.floor] p, onlyInSetup s,
       ((inRange 2 30 minimum).isNone || (inRange 20 600 maximum).isNone || maximum ≤ minimum, .outOfRange)] s
      (taken (s.setTally { s.tally with makeupMin := minimum, makeupMax := maximum }))) s

/-! ### What the moves share (R23, R24, R36, R48) -/

/-- R23: the checks of a move request before those of its own rule. -/
def moveChecks (p : Port) (states : List TallyState) (s : State) : List (Bool × ReplyCode) :=
  [onlyFrom [.floor] p,
   (s.modes.mode == .setup || s.modes.mode == .standby, .wrongMode),
   (s.tally.state == .unresolved || s.tally.bha.isEmpty, .sequence),
   (!(states.contains s.tally.state), .sequence)]

/-- R36, R37: the serial a make-up notice carries: the rod in the handling position in ROD_HELD_ADD, and otherwise the top
rod of the stack, or 0. -/
def makeupSerial (t : Tally) : Nat :=
  if t.state = .rodHeldAdd then t.handling.getD 0 else topSerial t

/-- R36: the elapsed time of the running stab. -/
def stabElapsed (s : State) : Nat := elapsed s.seconds (s.tally.stab.getD 0)

/-- R28, R31, R36: the checks of a confirmation. -/
def confirmChecks (s : State) : List (Bool × ReplyCode) :=
  [(s.tally.stab.isNone, .notStabbed), (stabElapsed s < s.tally.makeupMin, .early)]

/-- R23, R36: a move refused: SEQUENCE raises TALLY_SEQUENCE, EARLY is counted and raises EARLY_MAKEUP. -/
def refuseMove (code : Nat) (c : ReplyCode) (s : State) : Response :=
  match c with
  | .sequence => refuse .sequence (raise .tallySequence code s.tally.state.code s)
  | .early =>
    refuse .early (raise .earlyMakeup (makeupSerial s.tally) (stabElapsed s)
      (s.setTally { s.tally with earlyConfirms := satAdd Config.max16 s.tally.earlyConfirms 1 }))
  | c => refuse c s

/-- A move whose checks are made in order, the first that fails deciding how it is refused. -/
def judgedMove (code : Nat) (checks : List (Bool × ReplyCode)) (s : State) (r : Response) : Response :=
  match firstFailing checks with
  | some c => refuseMove code c s
  | none => r

/-- A move request with its checks in order and its effect when taken. -/
def moveRequest (p : Port) (code : Nat) (checks : State → List (Bool × ReplyCode)) (effect : State → State)
    (s : State) : Host.Outcome State Fault Refusal :=
  request p code (fun s => judgedMove code (checks s) s (taken (effect s))) s

/-- R24: the tally as a taken move leaves it: the last-move second recorded, and the permits at their new levels. -/
def moveTo (t : Tally) (s : State) : State := drivePermits (s.setTally { t with lastMove := some s.seconds })

/-- R48: the frozen string-top height moved with the top of the string; an absent one stays absent. -/
def moveStringTop (d : Int) (s : State) : State :=
  s.setDepth { s.depth with stringTop := s.depth.stringTop.map (· + d) }

/-- The rod in the handling position; a tally without one is refused SEQUENCE where a move needs it (R21; log entry 26). -/
def heldSerial (s : State) : Nat := s.tally.handling.getD 0

/-- Log entry 26. -/
def rodMissing (s : State) : Bool × ReplyCode := (s.tally.handling.isNone, .sequence)

/-! ### The moves -/

/-- R25. The string-top height keeps its value; the depth computation is made (R47). -/
def setSlipsTaken (s : State) : State :=
  recheck (depthCompute (moveTo { s.tally with state := .inSlipsLatched, stab := none } s))

/-- SET_SLIPS (R25). -/
def execSetSlips (p : Port) (s : State) : Host.Outcome State Fault Refusal :=
  moveRequest p 17 (moveChecks p [.onBlock]) setSlipsTaken s

/-- R26, R47. String-top height becomes the last block height reported, and the depth computation is made. -/
def releaseSlipsTaken (s : State) : State :=
  let s := moveTo { s.tally with state := .onBlock, stab := none } s
  recheck (depthCompute (s.setDepth { s.depth with stringTop := s.depth.block.map (fun h : Nat => (h : Int)) }))

/-- RELEASE_SLIPS (R26): SLIPS PERMIT must be driven asserted and read back asserted when the request is taken. -/
def execReleaseSlips (p : Port) (pins : SensePins) (s : State) : Host.Outcome State Fault Refusal :=
  writeTransaction p (fun s =>
    respond p 18 (fun s =>
      judgedMove 18
        (moveChecks p [.inSlipsLatched] s ++ [(!(s.tally.slips.drive && s.tally.slips.sense), .sequence)]) s
        (taken (releaseSlipsTaken s))) (sensePermits pins s)) s

/-- UNLATCH (R27). -/
def execUnlatch (p : Port) (s : State) : Host.Outcome State Fault Refusal :=
  moveRequest p 19 (moveChecks p [.inSlipsLatched])
    (fun s => recheck (moveTo { s.tally with state := .inSlipsFree, stab := none } s)) s

/-- LATCH (R28). -/
def execLatch (p : Port) (s : State) : Host.Outcome State Fault Refusal :=
  moveRequest p 20 (fun s => moveChecks p [.inSlipsFree] s ++ confirmChecks s)
    (fun s => recheck (moveTo { s.tally with state := .inSlipsLatched, stab := none } s)) s

/-- R29, R48. The top rod leaves the stack for the handling position. -/
def breakJointTaken (s : State) : State :=
  let serial := topSerial s.tally
  let s := moveTo { s.tally with stack := s.tally.stack.dropLast, handling := some serial, state := .rodHeldRemove,
                                 stab := none } s
  recheck (depthCompute (moveStringTop (-(rodLength s.rack.rods serial : Int)) s))

/-- BREAK_JOINT (R29). -/
def execBreakJoint (p : Port) (s : State) : Host.Outcome State Fault Refusal :=
  moveRequest p 21 (fun s => moveChecks p [.inSlipsLatched] s ++ [(s.tally.stack.isEmpty, .sequence)]) breakJointTaken s

/-- R30: the pick of a WORN rod raises ROD_WORN. -/
def noteWornPick (serial : Nat) (s : State) : State :=
  match findRod s.rack.rods serial with
  | some r => raiseIf (r.status == .worn) .rodWorn serial r.jointsMade s
  | none => s

/-- R30. -/
def pickRodTaken (slot : Nat) (s : State) : State :=
  let serial := (slotAt s.rack slot).occupant.getD 0
  let s := s.setRack (setOccupant slot none s.rack)
  let s := moveTo { s.tally with handling := some serial, state := .rodHeldAdd, stab := none } s
  recheck (noteWornPick serial s)

/-- PICK_ROD (R30). -/
def execPickRod (p : Port) (slot : Nat) (s : State) : Host.Outcome State Fault Refusal :=
  moveRequest p 22
    (fun s => moveChecks p [.inSlipsFree] s ++ [(s.tally.stab.isSome, .sequence)] ++ takeChecks s.rack slot)
    (pickRodTaken slot) s

/-- STAB (R35): the window starts, or restarts, at the current device second; the early-confirm count stands (R36; log
entry 38). -/
def execStab (p : Port) (s : State) : Host.Outcome State Fault Refusal :=
  moveRequest p 23 (moveChecks p [.rodHeldAdd, .inSlipsFree])
    (fun s => recheck (moveTo { s.tally with stab := some s.seconds } s)) s

/-- R8: a joint counted on the rods it joins, and their wear checks, the picked rod first. -/
def countJoint (serials : List Nat) (s : State) : State :=
  wearChecks serials
    (countRods serials (fun r => { r with jointsMade := satAdd Config.max16 r.jointsMade 1 }) s)

/-- R31, R48, R8. -/
def makeJointTaken (s : State) : State :=
  let serial := heldSerial s
  let joined := serial :: s.tally.stack.getLast?.toList
  let s := moveTo { s.tally with stack := s.tally.stack ++ [serial], handling := none, state := .inSlipsLatched,
                                 stab := none } s
  let s := depthCompute (moveStringTop (rodLength s.rack.rods serial : Int) s)
  recheck (countJoint joined s)

/-- MAKE_JOINT (R31). -/
def execMakeJoint (p : Port) (s : State) : Host.Outcome State Fault Refusal :=
  moveRequest p 24 (fun s => moveChecks p [.rodHeldAdd] s ++ confirmChecks s ++ [rodMissing s]) makeJointTaken s

/-- R32, R42: the rod in the handling position becomes the recorded occupant of a slot, and the tally IN_SLIPS_FREE. -/
def rackHeldRod (slot : Nat) (s : State) : State :=
  let s' := s.setRack (setOccupant slot (some (heldSerial s)) s.rack)
  recheck (moveTo { s'.tally with handling := none, state := .inSlipsFree, stab := none } s')

/-- RACK_ROD (R32). -/
def execRackRod (p : Port) (slot : Nat) (s : State) : Host.Outcome State Fault Refusal :=
  moveRequest p 25
    (fun s => moveChecks p [.rodHeldAdd, .rodHeldRemove] s ++ [rodMissing s] ++ putChecks s.rack slot)
    (rackHeldRod slot) s

/-- R33, R42: the rod in the handling position joins the laid-out list, and the tally becomes IN_SLIPS_FREE. -/
def layOutHeldRod (s : State) : State :=
  let s' := s.setRack (layOut (heldSerial s) s.rack)
  recheck (moveTo { s'.tally with handling := none, state := .inSlipsFree, stab := none } s')

/-- R15, R33: the laid-out list has no room. -/
def laidOutFull (k : Rack) : Bool × ReplyCode := (Config.maxLaidOut ≤ k.laidOut.length, .full)

/-- LAY_OUT_ROD (R33). -/
def execLayOutRod (p : Port) (s : State) : Host.Outcome State Fault Refusal :=
  moveRequest p 26
    (fun s => moveChecks p [.rodHeldAdd, .rodHeldRemove] s ++ [rodMissing s, laidOutFull s.rack]) layOutHeldRod s

/-- R42, STRING_TOP: the rod onto the stack, with no joint counted. -/
def resolveToString (s : State) : State :=
  let serial := heldSerial s
  let s := moveTo { s.tally with stack := s.tally.stack ++ [serial], handling := none, state := .inSlipsLatched,
                                 stab := none } s
  recheck (depthCompute (moveStringTop (rodLength s.rack.rods serial : Int) s))

/-- R42: the checks of RESOLVE ROD that do not depend on its destination. -/
def resolveChecks (p : Port) (s : State) : List (Bool × ReplyCode) :=
  [onlyFrom [.floor] p, (s.modes.mode == .standby, .wrongMode), (s.tally.state != .unresolved, .sequence), rodMissing s]

/-- R42, R183: the checks of each destination (0 STRING_TOP, 1 SLOT, 2 LAID_OUT); another byte is refused (R182; log
entry 29). With STRING_TOP and LAID_OUT the slot byte is not read (log entry 39). -/
def destinationChecks (destination slot : Nat) (k : Rack) : List (Bool × ReplyCode) :=
  match destination with
  | 0 => []
  | 1 => putChecks k slot
  | 2 => [laidOutFull k]
  | _ => [(true, .outOfRange)]

/-- R42: the effect of each destination. -/
def resolveTaken (destination slot : Nat) (s : State) : State :=
  match destination with
  | 0 => resolveToString s
  | 1 => rackHeldRod slot s
  | _ => layOutHeldRod s

/-- RESOLVE_ROD (R42). -/
def execResolveRod (p : Port) (destination slot : Nat) (s : State) : Host.Outcome State Fault Refusal :=
  moveRequest p 27 (fun s => resolveChecks p s ++ destinationChecks destination slot s.rack)
    (resolveTaken destination slot) s

/-! ### The events -/

/-- R37: the counter has reached the start second plus the maximum while the stab is still running. -/
def stabDue (s : State) : Bool :=
  match s.tally.stab with
  | some t => s.tally.makeupMax ≤ elapsed s.seconds t
  | none => false

/-- R37: a stab that is due expires. -/
def expireStab (s : State) : State :=
  if stabDue s then
    recheck (raise .makeupExpired (makeupSerial s.tally) s.tally.makeupMax
      (drivePermits (s.setTally { s.tally with stab := none })))
  else s

/-- MAKEUP_EXPIRED (R37): no effect where no stab is due (log entry 7). -/
def execMakeupExpired (s : State) : Host.Outcome State Fault Refusal := whileRunning expireStab s

/-- R40: the comparison of one line: its mismatch count and fault flag afterwards. -/
def compareLine (x : PermitLine) : PermitLine :=
  if x.sense = x.drive then { x with mismatch := 0, fault := false }
  else if x.mismatch < 2 then { x with mismatch := x.mismatch + 1, fault := x.fault || x.mismatch == 1 }
  else x

/-- R40: the comparison sets the fault flag, which raises PERMIT_FAULT. -/
def faultsNow (x : PermitLine) : Bool := !x.fault && (compareLine x).fault

/-- R173: the comparison changes the fault flag. -/
def faultChanges (x : PermitLine) : Bool := x.fault != (compareLine x).fault

/-- R40: the readback of both permits at a device second, the notices in line order, then the re-check of R173 if a fault
flag changed (log entry 9). -/
def permitReadback (pins : SensePins) (s : State) : State :=
  let s := sensePermits pins s
  let slips := s.tally.slips
  let pump := s.tally.pump
  let s := s.setTally { s.tally with slips := compareLine slips, pump := compareLine pump }
  let s := raiseIf (faultsNow slips) .permitFault (permitNumber .slips) slips.drive.toNat s
  let s := raiseIf (faultsNow pump) .permitFault (permitNumber .pump) pump.drive.toNat s
  if faultChanges slips || faultChanges pump then recheck s else s

/-- One permit line of the tally. -/
def lineOf (t : Tally) : Permit → PermitLine
  | .slips => t.slips
  | .pump => t.pump

/-- One permit line replaced. -/
def setLine (q : Permit) (x : PermitLine) (t : Tally) : Tally :=
  match q with
  | .slips => { t with slips := x }
  | .pump => { t with pump := x }

/-- R40: the second comparison of one permit, with the level it reads: it faults a line that has disagreed once already
(log entry 8). -/
def secondComparison (q : Permit) (sense : Bool) (s : State) : State :=
  let x := { lineOf s.tally q with sense := sense }
  if x.sense != x.drive && 1 ≤ x.mismatch && !x.fault then
    recheck (raise .permitFault (permitNumber q) x.drive.toNat
      (s.setTally (setLine q { x with mismatch := 2, fault := true } s.tally)))
  else s

/-- PERMIT_FAULT (R40): no effect where this is not a line's second disagreeing comparison (log entries 7 and 8). -/
def execPermitFault (permit : Permit) (sense : Bool) (s : State) : Host.Outcome State Fault Refusal :=
  whileRunning (secondComparison permit sense) s

/-! ### Reads (R43) -/

/-- R43: drive, sense and fault of a permit. -/
def lineBytes (x : PermitLine) : List Byte := flag x.drive ++ flag x.sense ++ flag x.fault

/-- R43: what READ TALLY returns. -/
def tallyBytes (s : State) : List Byte :=
  num1 s.tally.state.code ++ optional 4 num4 s.tally.stab ++ num2 (s.tally.handling.getD 0) ++
    num2 s.tally.stack.length ++ num4 (stringLength s) ++ lineBytes s.tally.slips ++ lineBytes s.tally.pump ++
    num2 s.tally.earlyConfirms ++ optional 4 num4 s.tally.lastMove

/-- READ_TALLY (R43), with the sense levels at the moment it is taken. -/
def execReadTally (p : Port) (pins : SensePins) (s : State) : Host.Outcome State Fault Refusal :=
  writeTransaction p (fun s => respond p 136 (fun s => answered (tallyBytes s) s) (sensePermits pins s)) s

/-- READ_STACK (R43): positions count from STRING 1. -/
def execReadStack (p : Port) (position : Nat) (s : State) : Host.Outcome State Fault Refusal :=
  readRequest p 137 (fun _ => [(position == 0 || 256 < position, .outOfRange)])
    (fun s => num2 s.tally.stack.length ++ counted num2 (page (position - 1) 16 s.tally.stack)) s

/-- READ_BHA (R43). -/
def execReadBha (p : Port) (s : State) : Host.Outcome State Fault Refusal :=
  readRequest p 138 (fun _ => [])
    (fun s => counted (fun c : Component => num1 c.kind.code ++ num2 c.length ++ num2 c.od) s.tally.bha) s

/-- READ_MAKEUP_LIMITS (R43). -/
def execReadMakeupLimits (p : Port) (s : State) : Host.Outcome State Fault Refusal :=
  readRequest p 139 (fun _ => []) (fun s => num1 s.tally.makeupMin ++ num2 s.tally.makeupMax) s

end Sys2Proof.Machine
end

