-- ==== Sys2Proof/Machine/DeviceSecond.lean ====
section
/-! DEFINITION. Machine/DeviceSecond.lean: the work the part does at each device second (DEVICE_SECOND). The manual gives
each piece of work a rule and fixes no order among them but what the pieces read; the order here is that of the row's
summary (log entry 5). -/

namespace Sys2Proof.Machine

/-- R7: wear counting, and the wear checks from the bottom rod upward, at a second with rotation on. -/
def wearSecond (s : State) : State :=
  if s.depth.rotation then
    wearChecks s.tally.stack
      (countRods s.tally.stack
        (fun r => { r with rotatingSeconds := satAdd Config.max32 r.rotatingSeconds 1 }) s)
  else s

/-- R60: the rig activity derived and held until the next second. -/
def deriveActivity (s : State) : State := s.setDepth { s.depth with activity := activityNow s }

/-- R109: the strata log's credit for a second that is DRILLING while a job is open. -/
def logSecond (s : State) : State :=
  if s.job.isOpen && s.depth.activity == .drilling then drillingSecond s else s

/-- R135, R193: the job clock rises by one while a job is open, and the advance credits the second; a clock at its greatest
value does not advance, and credits none (log entry 27). -/
def clockSecond (s : State) : State :=
  if s.job.isOpen && s.job.clock < Config.max32 then
    creditSecond (s.setJob { s.job with clock := s.job.clock + 1 })
  else s

/-- R37, R74: an expiry that the counter has already reached comes before the next second (log entry 6). -/
def overdueExpiries (s : State) : State := makeStale (expireStab s)

/-- R197: the counter advances. -/
def advanceSeconds (s : State) : State := s.setSeconds (nextSecond s.seconds)

/-- The work of one device second. -/
def secondPasses (pins : SensePins) (s : State) : State :=
  clockSecond (logSecond (deriveActivity (permitReadback pins (wearSecond (advanceSeconds (overdueExpiries s))))))

/-- DEVICE_SECOND (R60). -/
def execDeviceSecond (pins : SensePins) (s : State) : Host.Outcome State Fault Refusal := whileRunning (secondPasses pins) s

end Sys2Proof.Machine
end

