-- ==== Sys2Proof/Machine/Metering.lean ====
section
/-! DEFINITION. Machine/Metering.lean: the requests of chapter 7, Metering and Tickets. -/

namespace Sys2Proof.Machine

/-! ### The rate card (R128 to R131) -/

/-- R129: the checks of a rate-card write; `refused` says whether a value carried lies outside its range. -/
def cardChecks (p : Port) (refused : Bool) (s : State) : List (Bool × ReplyCode) :=
  [onlyFrom [.record] p, onlyInSetup s, (refused, .outOfRange), (pricedLineOpen s, .ticketOpen)]

/-- The rate card replaced. -/
def setCard (card : RateCard) (s : State) : State := s.setMeter { s.meter with card := card }

/-- R130. The band rates and the default band stored; with a job open, a different default band rebands every unclassified
interval under the rates just stored (R118). -/
def setBandRatesTaken (rates : List Nat) (band : Band) (s : State) : State :=
  let old := s.meter.card.defaultBand
  let s := setCard { s.meter.card with bandRates := rates, defaultBand := band } s
  if band ≠ old ∧ s.job.isOpen then postUnclassified s else s

/-- SET_BAND_RATES (R130). -/
def execSetBandRates (p : Port) (rates : List Nat) (defaultBand : Nat) (s : State) :
    Host.Outcome State Fault Refusal :=
  request p 64 (fun s =>
    checked (cardChecks p ((readAll (inRange 0 100000) rates).isNone || (bandOf defaultBand).isNone) s) s
      (taken (setBandRatesTaken rates ((bandOf defaultBand).getD .bandB) s))) s

/-- R128: the standard multipliers of the tiers. -/
def standardMultipliers : List Nat := [1000, 1100, 1250, 1400, 1600, 1800, 2000, 2250]

/-- R130: a multiplier carried as 0 is allowed beside the range 500–4,000. -/
def multiplierOk (v : Nat) : Bool := v == 0 || (inRange 500 4000 v).isSome

/-- R130: a multiplier carried as 0 stands for the standard multiplier of its tier. -/
def multiplierStored (v standard : Nat) : Nat := if v = 0 then standard else v

/-- SET_TIER_MULTIPLIERS (R130). -/
def execSetTierMultipliers (p : Port) (multipliers : List Nat) (s : State) : Host.Outcome State Fault Refusal :=
  request p 65 (fun s =>
    checked (cardChecks p (!multipliers.all multiplierOk) s) s
      (taken (setCard { s.meter.card with
        multipliers := List.zipWith multiplierStored multipliers standardMultipliers } s))) s

/-- SET_HOURLY_RATES (R131). -/
def execSetHourlyRates (p : Port) (rates : List Nat) (s : State) : Host.Outcome State Fault Refusal :=
  request p 66 (fun s =>
    checked (cardChecks p (readAll (inRange 0 1000000) rates).isNone s) s
      (taken (setCard { s.meter.card with hourly := rates } s))) s

/-- SET_ADDITIVE_PRICES (R131). -/
def execSetAdditivePrices (p : Port) (prices : List Nat) (s : State) : Host.Outcome State Fault Refusal :=
  request p 67 (fun s =>
    checked (cardChecks p (readAll (inRange 0 1000000) prices).isNone s) s
      (taken (setCard { s.meter.card with prices := prices } s))) s

/-! ### Tickets -/

/-- R142, R144, R195: the closed list holds 4 tickets. -/
def closedFull (s : State) : Bool × ReplyCode := (Config.maxClosed ≤ s.meter.closed.length, .full)

/-- CLOSE_TICKET (R142). -/
def execCloseTicket (p : Port) (reference : Nat) (s : State) : Host.Outcome State Fault Refusal :=
  request p 68 (fun s =>
    checked [onlyFrom [.record] p, (!s.job.isOpen, .incomplete), closedFull s] s
      (taken (closeOpenTicket reference true s))) s

/-- R145: the number is not that of the head of the closed list. -/
def notHead (number : Nat) (s : State) : Bool × ReplyCode :=
  ((s.meter.closed.head?.map Ticket.number) != some number, .outOfOrder)

/-- ACKNOWLEDGE_TICKET (R145). -/
def execAcknowledgeTicket (p : Port) (number : Nat) (s : State) : Host.Outcome State Fault Refusal :=
  request p 69 (fun s =>
    checked [onlyFrom [.record] p, (s.meter.closed.isEmpty, .noSuch), notHead number s] s
      (taken (s.setMeter { s.meter with closed := s.meter.closed.tail }))) s

/-! ### Reads (R147, R148, R184) -/

/-- R183: the code of a line's kind. -/
def LineKey.kindCode : LineKey → Nat
  | .footage _ _ => 0
  | .time _ => 1
  | .additive _ => 2
  | .adjustment _ => 3
  | .unwitnessed => 4
  | .setup => 5

/-- R182: the two key bytes of a line. -/
def LineKey.bytes : LineKey → List Byte
  | .footage b t => num1 b.code ++ num1 t
  | .time a => num1 a.code ++ num1 0
  | .additive i => num1 i ++ num1 0
  | .adjustment b => num1 b.code ++ num1 0
  | .unwitnessed => num1 0 ++ num1 0
  | .setup => num1 0 ++ num1 0

/-- R184: the billed tenths of a TIME line, 0 for another. -/
def tenthsOf (l : Line) : Nat :=
  match l.key with
  | .time _ => billedTenths l.quantity.toNat
  | _ => 0

/-- R184: the quantity of a line: signed for an ADJUSTMENT line, unsigned for the others. -/
def quantityBytes (l : Line) : List Byte :=
  match l.key with
  | .adjustment _ => int4 l.quantity
  | _ => num4 l.quantity.toNat

/-- R184: one line, 25 bytes, with its amount (fixed at close, or provisional). -/
def lineReply (provisional : Bool) (amount : Option Int) (l : Line) : List Byte :=
  num1 l.key.kindCode ++ l.key.bytes ++ quantityBytes l ++ int8 l.cents ++ num4 (tenthsOf l) ++
    optional 4 int4 amount ++ flag provisional

/-- R184: the header of a ticket, 38 bytes. -/
def headerBytes (isOpen : Bool) (provisional : Option Int) (t : Ticket) : List Byte :=
  num2 t.number ++ optional 2 num2 t.reference ++ num4 t.clockOpen ++ optional 4 num4 t.clockClose ++
    num4 t.holeOpen ++ optional 4 num4 t.holeClose ++ num2 t.powerEvents ++ num1 t.lines.length ++
    optional 4 int4 t.total ++ flag t.saturated ++ flag isOpen ++ optional 4 int4 provisional

/-- R147: the open ticket as READ TICKET returns it, with the amounts that a close at this moment would fix. -/
def openTicketBytes (card : RateCard) (n : Nat) (t : Ticket) : List Byte :=
  headerBytes true (some (limitAmount (rawTotal card t.lines))) t ++
    counted (fun l => lineReply true (amountOf card l) l) (page (8 * n) 8 t.lines)

/-- R147: a closed ticket as READ TICKET returns it. -/
def closedTicketBytes (n : Nat) (t : Ticket) : List Byte :=
  headerBytes false none t ++ counted (fun l => lineReply false l.amount l) (page (8 * n) 8 t.lines)

/-- R147: the closed ticket of a number. -/
def findClosed (selector : Nat) (s : State) : Option Ticket := s.meter.closed.find? fun t => t.number == selector

/-- R147, check 2: the ticket named does not exist. -/
def noTicket (selector : Nat) (s : State) : Bool :=
  if selector = 0 then !s.job.isOpen || s.meter.openTicket.isNone else (findClosed selector s).isNone

/-- R147: the ticket a selector names, as bytes. -/
def ticketBytes (selector n : Nat) (s : State) : List Byte :=
  if selector = 0 then (s.meter.openTicket.map (openTicketBytes s.meter.card n)).getD []
  else ((findClosed selector s).map (closedTicketBytes n)).getD []

/-- READ_TICKET (R147). -/
def execReadTicket (p : Port) (selector page : Nat) (s : State) : Host.Outcome State Fault Refusal :=
  readRequest p 176 (fun s => [(6 < page, .outOfRange), (noTicket selector s, .noSuch)]) (ticketBytes selector page) s

/-- R148: the group of the rate card. -/
def cardGroup (group : Nat) (card : RateCard) : List Byte :=
  match group with
  | 0 => card.bandRates.flatMap num4 ++ num1 card.defaultBand.code
  | 1 => card.multipliers.flatMap num2
  | 2 => card.hourly.flatMap num4
  | _ => card.prices.flatMap num4

/-- R148: the card is writable at this moment. -/
def cardWritable (s : State) : Bool := s.modes.mode == .setup && !pricedLineOpen s

/-- READ_RATE_CARD (R148). -/
def execReadRateCard (p : Port) (group : Nat) (s : State) : Host.Outcome State Fault Refusal :=
  readRequest p 177 (fun _ => [(3 < group, .outOfRange)])
    (fun s => cardGroup group s.meter.card ++ num4 s.meter.closedDepth ++ flag (cardWritable s)) s

/-- R148: the group of the job totals. -/
def totalsGroup (selector : Nat) (t : Totals) : List Byte :=
  if selector ≤ 3 then (page (8 * selector) 8 t.footage).flatMap num4
  else if selector = 4 then t.seconds.flatMap num4
  else t.units.flatMap num4

/-- READ_JOB_TOTALS (R148). -/
def execReadJobTotals (p : Port) (selector : Nat) (s : State) : Host.Outcome State Fault Refusal :=
  readRequest p 178 (fun _ => [(5 < selector, .outOfRange)])
    (fun s =>
      totalsGroup selector s.meter.totals ++ optional 4 num4 s.job.start ++ optional 4 num4 s.depth.hole ++
        flag s.job.isOpen) s

end Sys2Proof.Machine
end

