-- ==== Sys2Proof/Machine/Jobs.lean ====
section
/-! DEFINITION. Machine/Jobs.lean: the requests of chapter 11, Jobs, Retained State and Power. -/

namespace Sys2Proof.Machine

/-- R194: the job record that OPEN JOB sets. -/
def openedJob (number start interval : Nat) : Job :=
  { isOpen := true, number := some number, start := some start, interval := some interval, clock := 0 }

/-- R144, R194: the metering unit for a new job: H_c at the start depth, totals cleared, ticket 1 open. -/
def meterOpenJob (start : Nat) (m : Meter) : Meter :=
  { m with closedDepth := start, totals := zeroTotals, openTicket := some (newTicket 1 0 start) }

/-- R194: the settings of every block for a new job, the depth computation last (R52). -/
def openJobTaken (number start interval : Nat) (s : State) : State :=
  let s := s.setJob (openedJob number start interval)
  let s := s.setCirc { s.circ with pumped := 0 }
  let s := s.setLag { s.lag with queue := [], nextSample := 1, belowProgram := false }
  let s := s.setLog (logOpenJob start s.meter.card.defaultBand s.log)
  let s := s.setMeter (meterOpenJob start s.meter)
  depthCompute (s.setDepth { s.depth with hole := some start, disagree := false, limit := false })

/-- R194, check 3. -/
def openJobOutOfRange (number start interval : Nat) : Bool :=
  (inRange 1 65535 number).isNone || 1500000 < start || (inRange 500 5000 interval).isNone

/-- OPEN_JOB (R194). -/
def execOpenJob (p : Port) (number start interval : Nat) (s : State) : Host.Outcome State Fault Refusal :=
  request p 96 (fun s =>
    checked
      [onlyFrom [.record] p, onlyInSetup s, (openJobOutOfRange number start interval, .outOfRange),
       (s.job.isOpen, .busy), (!s.meter.closed.isEmpty, .ticketsPending)] s
      (taken (openJobTaken number start interval s))) s

/-- R195: the last ticket closed with no ticket after it, then the job closed. -/
def closeJobTaken (reference : Nat) (s : State) : State :=
  let s := closeOpenTicket reference false s
  s.setJob { s.job with isOpen := false }

/-- CLOSE_JOB (R195). -/
def execCloseJob (p : Port) (reference : Nat) (s : State) : Host.Outcome State Fault Refusal :=
  request p 97 (fun s =>
    checked [onlyFrom [.record] p, onlyInSetup s, (!s.job.isOpen, .incomplete), closedFull s] s
      (taken (closeJobTaken reference s))) s

/-- R199: the number of the open ticket, absent while no job is open. -/
def openTicketNumber (s : State) : Option Nat := if s.job.isOpen then s.meter.openTicket.map Ticket.number else none

/-- R199: what READ JOB returns. -/
def jobBytes (s : State) : List Byte :=
  flag s.job.isOpen ++ optional 2 num2 s.job.number ++ optional 4 num4 s.job.start ++ optional 2 num2 s.job.interval ++
    num4 s.job.clock ++ optional 2 num2 (openTicketNumber s) ++ num1 s.meter.closed.length ++ flag s.storeBlank

/-- READ_JOB (R199). -/
def execReadJob (p : Port) (s : State) : Host.Outcome State Fault Refusal :=
  readRequest p 208 (fun _ => []) jobBytes s

end Sys2Proof.Machine
end

