-- ==== Sys2Proof/Machine/LagRequests.lean ====
section
/-! DEFINITION. Machine/LagRequests.lean: the requests of chapter 5, Annulus and Lag, and the arrival of a sample
(SAMPLE_ARRIVAL). -/

namespace Sys2Proof.Machine

/-- R87: one section of a SET CASING PROGRAM request below a section whose base is `above`, none where it is refused. -/
def sectionOf (above : Nat) (c : SectionField) : Option Section :=
  match inRange 1 1600000 c.base, inRange 50 700 c.bore, sectionKindOf c.kind with
  | some base, some bore, some kind => if above < base then some { base := base, bore := bore, kind := kind } else none
  | _, _, _ => none

/-- R87: the sections from the table down, each base greater than the one above. -/
def sectionsFrom : Nat → List SectionField → Option (List Section)
  | _, [] => some []
  | above, c :: cs =>
    match sectionOf above c, sectionsFrom c.base cs with
    | some x, some xs => some (x :: xs)
    | _, _ => none

/-- R87: the program a request gives, none where it is refused OUT_OF_RANGE. -/
def programGiven (sections : List SectionField) : Option (List Section) :=
  if sections.length = 0 ∨ 6 < sections.length then none else sectionsFrom 0 sections

/-- SET_CASING_PROGRAM (R87). -/
def execSetCasingProgram (p : Port) (sections : List SectionField) (s : State) :
    Host.Outcome State Fault Refusal :=
  request p 48 (fun s =>
    checked [onlyFrom [.record] p, onlyInSetup s, ((programGiven sections).isNone, .outOfRange)] s
      (taken (s.setLag { s.lag with program := (programGiven sections).getD [], belowProgram := false }))) s

/-- R98, check 3: the head is the entry named. -/
def headNamed (number : Nat) (s : State) : Option LagEntry :=
  match s.lag.queue with
  | e :: _ => if e.number = number then some e else none
  | [] => none

/-- R98, check 4: the caught flag of a record set. -/
def markCaught (number : Nat) (samples : List Sample) : List Sample :=
  samples.map fun r => if r.number = number then { r with caught := true } else r

/-- R98, checks 3 to 6, and R99. -/
def sampleCaughtTaken (number : Nat) (s : State) : Response :=
  match headNamed number s with
  | some e =>
    taken (releaseArrivals (arrive e .caught true (s.setLag { s.lag with queue := s.lag.queue.tail })))
  | none =>
    if s.log.samples.any fun r => r.number == number then
      { taken (s.setLog { s.log with samples := markCaught number s.log.samples }) with code := .alreadyArrived }
    else if s.lag.queue.any fun e => e.number == number then refuse .outOfOrder s
    else refuse .noSuch s

/-- SAMPLE_CAUGHT (R98). -/
def execSampleCaught (p : Port) (number : Nat) (s : State) : Host.Outcome State Fault Refusal :=
  request p 49 (fun s =>
    checked [onlyFrom [.mud] p, ((inRange 1 3200 number).isNone, .outOfRange), (!s.job.isOpen, .incomplete)] s
      (sampleCaughtTaken number s)) s

/-- SAMPLE_ARRIVAL (R97): the head arrives if it is timed and its target is reached; else no effect (log entry 7). -/
def execSampleArrival (s : State) : Host.Outcome State Fault Refusal := whileRunning releaseHead s

/-! ### Reads (R102, R103) -/

/-- R102: the sections of a program with their tops. -/
def programBytes : Nat → List Section → List Byte
  | _, [] => []
  | top, x :: rest => num4 top ++ num4 x.base ++ num2 x.bore ++ num1 x.kind.code ++ programBytes x.base rest

/-- READ_CASING_PROGRAM (R102). -/
def execReadCasingProgram (p : Port) (s : State) : Host.Outcome State Fault Refusal :=
  readRequest p 160 (fun _ => [])
    (fun s => num1 s.lag.program.length ++ programBytes 0 s.lag.program ++ flag s.lag.belowProgram) s

/-- R86, R102: the kind of the section that contains a depth; none below the program. -/
def sectionKindAt (program : List Section) (z : Nat) : Option SectionKind :=
  (program.find? fun x => z < x.base).map Section.kind

/-- R183: below program is 2. -/
def sectionKindByte (program : List Section) (z : Nat) : Nat :=
  ((sectionKindAt program z).map SectionKind.code).getD 2

/-- R102: the lag in strokes of a pump, absent for an absent pump. -/
def lagStrokes (x : Pump) (annular : Nat) : Option Nat :=
  if x.present then some (ceilDiv annular x.strokeVolume) else none

/-- R102: what READ ANNULUS returns; while bit depth is STALE or the program is absent, V_a and the lags are absent, and the
pieces and the kind are free values (log entry 14). -/
def annulusBytes (s : State) : List Byte :=
  match s.depth.bit, s.lag.program with
  | some z, _ :: _ =>
    let v := annularVolume s z
    optional 4 num4 (some z) ++ optional 4 num4 (some v) ++ num4 (piecesOf s z).length ++
      num1 (sectionKindByte s.lag.program z) ++ optional 4 num4 (lagStrokes s.circ.pump1 v) ++
      optional 4 num4 (lagStrokes s.circ.pump2 v)
  | z, _ =>
    optional 4 num4 z ++ optional 4 num4 none ++ num4 Config.annulusPiecesWhenAbsent.toNat ++
      num1 Config.annulusKindWhenAbsent.toNat ++ optional 4 num4 none ++ optional 4 num4 none

/-- READ_ANNULUS (R102): it sets no flag and raises no notice (R90). -/
def execReadAnnulus (p : Port) (s : State) : Host.Outcome State Fault Refusal :=
  readRequest p 161 (fun _ => []) annulusBytes s

/-- R103: every field of an entry. -/
def lagEntryBytes (e : LagEntry) : List Byte :=
  num2 e.number ++ num4 e.origin ++ num4 e.issued ++ optional 8 num8 e.target ++ num1 e.quality.code ++
    flag e.strokesHeld

/-- READ_LAG_QUEUE (R103). -/
def execReadLagQueue (p : Port) (position : Nat) (s : State) : Host.Outcome State Fault Refusal :=
  readRequest p 162 (fun _ => [(63 < position, .outOfRange)])
    (fun s =>
      num1 s.lag.queue.length ++ num2 s.lag.nextSample ++ num8 s.circ.pumped ++
        counted lagEntryBytes (page position 2 s.lag.queue)) s

end Sys2Proof.Machine
end

