-- ==== Sys2Proof/Machine/ModeRequests.lean ====
section
/-! DEFINITION. Machine/ModeRequests.lean: the requests of chapter 9, Operating Modes, and the taking of a pending mode
request (PENDING_MODE_TAKEN). -/

namespace Sys2Proof.Machine

/-- ENTER_SETUP (R168). -/
def execEnterSetup (p : Port) (s : State) : Host.Outcome State Fault Refusal :=
  request p 80 (fun s =>
    checked [onlyFrom [.record] p] s
      (if s.modes.mode = .setup ∨ quietFailing s = 0 then taken (takeMode .setup s)
       else goPending .setup p (quietFailing s) s)) s

/-- R169, R171: refused INCOMPLETE, with the sum of the codes of the failing entry checks in the reply. -/
def refuseIncomplete (s : State) : Response := { refuse .incomplete s with payload := num1 (entryFailing s) }

/-- R169, R171: the entry checks from SETUP fail; in another mode they are not made, with no job open too (log entry 43). -/
def entryRefused (s : State) : Bool := s.modes.mode == .setup && entryFailing s != 0

/-- ENTER_RUN (R169). -/
def execEnterRun (p : Port) (s : State) : Host.Outcome State Fault Refusal :=
  request p 81 (fun s =>
    checked [onlyFrom [.record] p] s
      (if entryRefused s then refuseIncomplete s else taken (takeMode .run s))) s

/-- ENTER_WATCH (R170). -/
def execEnterWatch (p : Port) (s : State) : Host.Outcome State Fault Refusal :=
  request p 82 (fun s =>
    checked [onlyFrom [.record] p, (s.modes.mode == .setup, .wrongMode)] s (taken (takeMode .watch s))) s

/-- ENTER_STANDBY (R171), from every port. -/
def execEnterStandby (p : Port) (s : State) : Host.Outcome State Fault Refusal :=
  request p 83 (fun s =>
    if entryRefused s then refuseIncomplete s
    else if s.modes.mode = .standby ∨ standbyFailing s = 0 then taken (takeMode .standby s)
    else goPending .standby p (standbyFailing s) s) s

/-- R174: the port may not cancel the pending mode request. -/
def mayNotCancel (p : Port) (s : State) : Bool :=
  p != .record &&
    match s.modes.request with
    | some r => p != r.origin
    | none => false

/-- CANCEL_MODE (R174): an empty request is refused NO_SUCH from any port, before the authority. -/
def execCancelMode (p : Port) (s : State) : Host.Outcome State Fault Refusal :=
  request p 84 (fun s =>
    checked [(s.modes.request.isNone, .noSuch), (mayNotCancel p s, .notPermitted)] s (taken (dropPending s))) s

/-- R176: the flags of one source, none where a value is neither set nor clear. -/
def flagsOf (c : WakeField) : Option WakeFlags :=
  match switchOf c.wake, switchOf c.notice with
  | some wake, some notice => some { wake := wake, notice := notice }
  | _, _ => none

/-- R176: the wake table that a request gives, none where it is refused. -/
def wakeTableGiven (sources : List WakeField) (m : Modes) : Option Modes :=
  match sources with
  | [c1, c2, c3, c4] =>
    match flagsOf c1, flagsOf c2, flagsOf c3, flagsOf c4 with
    | some f1, some f2, some f3, some f4 =>
      some { m with floorActivity := f1, circulation := f2, recordRequest := f3, artesian := f4 }
    | _, _, _, _ => none
  | _ => none

/-- SET_WAKE_TABLE (R176): PUMP PERMIT is re-evaluated by R39. -/
def execSetWakeTable (p : Port) (sources : List WakeField) (s : State) : Host.Outcome State Fault Refusal :=
  request p 85 (fun s =>
    checked
      [onlyFrom [.record] p, onlyInSetup s, ((wakeTableGiven sources s.modes).isNone, .outOfRange)] s
      (taken (drivePermits (s.setModes ((wakeTableGiven sources s.modes).getD s.modes))))) s

/-- PENDING_MODE_TAKEN (R173): no effect where no request is pending or its condition does not hold (log entry 7). -/
def execPendingModeTaken (s : State) : Host.Outcome State Fault Refusal := whileRunning recheck s

/-- R179: whether a condition holds, and its failing sum, absent where it holds. -/
def sumBytes (failing : Nat) : List Byte :=
  flag (failing == 0) ++ optional 1 num1 (if failing = 0 then none else some failing)

/-- R176, R179: the two flags of a wake source. -/
def wakeFlagBytes (f : WakeFlags) : List Byte := flag f.wake ++ flag f.notice

/-- READ_MODE (R179). -/
def execReadMode (p : Port) (s : State) : Host.Outcome State Fault Refusal :=
  readRequest p 192 (fun _ => [])
    (fun s =>
      num1 s.modes.mode.code ++
        optional 2 (fun r : PendingMode => num1 r.target.code ++ num1 (portNumber r.origin)) s.modes.request ++
        sumBytes (quietFailing s) ++ sumBytes (standbyFailing s) ++ num1 (entryFailing s) ++
        wakeFlagBytes s.modes.floorActivity ++ wakeFlagBytes s.modes.circulation ++
        wakeFlagBytes s.modes.recordRequest ++ wakeFlagBytes s.modes.artesian) s

end Sys2Proof.Machine
end

