-- ==== Sys2Proof/Machine/NoticeRequests.lean ====
section
/-! DEFINITION. Machine/NoticeRequests.lean: the requests of chapter 8, Notices. -/

namespace Sys2Proof.Machine

/-- SET_NOTICE_LEVELS (R152). -/
def execSetNoticeLevels (p : Port) (levels : List Nat) (s : State) : Host.Outcome State Fault Refusal :=
  request p 72 (fun s =>
    checked [onlyFrom [.record] p, onlyInSetup s, (levels.any fun v => 3 < v, .outOfRange)] s
      (taken (s.setLevels levels))) s

/-- R153: one filter pair of a port replaced. -/
def setFilter (pair : Nat) (f : Filter) (x : PortState) : PortState :=
  if pair = 1 then { x with filter1 := f } else { x with filter2 := f }

/-- What one port holds changed. -/
def modifyPort (p : Port) (f : PortState → PortState) (s : State) : State :=
  s.setPorts (s.ports.set p (f (s.ports.get p)))

/-- SET_NOTICE_FILTER (R153): taken from every port in every mode, on the pairs of the port it arrives on. An enable value
that is neither set nor clear is refused as R182 has it. -/
def execSetNoticeFilter (p : Port) (pair enable mask pattern : Nat) (s : State) : Host.Outcome State Fault Refusal :=
  request p 73 (fun s =>
    checked
      [((inRange 1 2 pair).isNone || (switchOf enable).isNone || 31 < mask || 31 < pattern, .outOfRange)] s
      (taken (modifyPort p
        (setFilter pair { enabled := (switchOf enable).getD false, mask := mask, pattern := pattern }) s))) s

/-- R192: a notice record in 12 bytes. -/
def noticeBytes (r : Notice) : List Byte :=
  num1 r.kind.code ++ num1 r.level ++ num2 r.argA ++ num4 r.argB ++ num4 r.jobClock

/-- READ_NOTICE (R157, R192): the first record leaves the queue when the request is taken. -/
def execReadNotice (p : Port) (s : State) : Host.Outcome State Fault Refusal :=
  request p 184 (fun s =>
    let x := s.ports.get p
    answered (optional 12 noticeBytes x.queue.head? ++ num1 x.queue.tail.length ++ num2 x.lost)
      (modifyPort p (fun x => { x with queue := x.queue.tail }) s)) s

/-- READ_SUMMARY (R159): one flag for each kind, and the summary becomes empty. -/
def execReadSummary (p : Port) (s : State) : Host.Outcome State Fault Refusal :=
  request p 185 (fun s =>
    answered ((s.ports.get p).summary.flatMap flag)
      (modifyPort p (fun x => { x with summary := List.replicate 25 false }) s)) s

/-- R162: a filter pair. -/
def filterBytes (f : Filter) : List Byte := flag f.enabled ++ num1 f.mask ++ num1 f.pattern

/-- R162: what READ NOTICE STATUS returns of a port. -/
def noticeStatusBytes (x : PortState) : List Byte :=
  num1 x.queue.length ++
    optional 4 (fun r : Notice => num1 r.level ++ num1 r.kind.code ++ num2 r.argA) x.queue.head? ++ num2 x.lost ++
    filterBytes x.filter1 ++ filterBytes x.filter2 ++ flag (attention x)

/-- READ_NOTICE_STATUS (R162). -/
def execReadNoticeStatus (p : Port) (s : State) : Host.Outcome State Fault Refusal :=
  readRequest p 186 (fun _ => []) (fun s => noticeStatusBytes (s.ports.get p)) s

/-- READ_NOTICE_LEVELS (R162). -/
def execReadNoticeLevels (p : Port) (s : State) : Host.Outcome State Fault Refusal :=
  readRequest p 187 (fun _ => []) (fun s => s.levels.flatMap num1) s

end Sys2Proof.Machine
end

