-- ==== Sys2Proof/Machine/Ports.lean ====
section
/-! DEFINITION. Machine/Ports.lean: the commands of chapter 10, Ports and Requests: read transactions, frames refused by the
port, PORT RESET and READ PORT STATUS. -/

namespace Sys2Proof.Machine

/-- R180: the bytes a read transaction of `clocked` bytes shifts out from its second byte on: the frame, or a single 0 byte,
and zeros beyond its end. -/
def shiftedOut (frame : List Byte) (clocked : Nat) : List Byte :=
  (frame ++ List.replicate (clocked - 1) 0).take (clocked - 1)

/-- R180, R185: a read transaction: the slot's frame is shifted out, and the slot emptied once every byte was clocked. -/
def readTransactionOn (clocked : Nat) (x : PortState) : PortState :=
  match x.slot with
  | some frame =>
    { x with dataOut := shiftedOut frame clocked, slot := if frame.length ≤ clocked - 1 then none else some frame }
  | none => { x with dataOut := shiftedOut [] clocked }

/-- READ_TRANSACTION (R180, R185) of `clocked` bytes, the first byte 0 among them. One in which no whole byte is clocked has
no effect. While RESET is held, zeros are shifted out and the slot stays as it is; in the dark, nothing happens. -/
def execReadTransaction (p : Port) (clocked : Nat) (s : State) : Host.Outcome State Fault Refusal :=
  match s.power, clocked with
  | .off, _ => .next s
  | .offResetHeld, _ => .next s
  | _, 0 => .next s
  | .running, n => .next (modifyPort p (readTransactionOn n) s)
  | .resetHeld, n => .next (modifyPort p (fun x => { x with dataOut := shiftedOut [] n }) s)

/-- BAD_FRAME (R187): the refusal is counted and its reply placed; no block is reached, and it is no wake event. -/
def execBadFrame (p : Port) (code : Nat) (s : State) : Host.Outcome State Fault Refusal :=
  writeTransaction p (fun s =>
    placeReply p code .badFrame []
      (modifyPort p (fun x => { x with frameErrors := satAdd 255 x.frameErrors 1 }) s)) s

/-- UNKNOWN_REQUEST (R187): not counted. -/
def execUnknownRequest (p : Port) (code : Nat) (s : State) : Host.Outcome State Fault Refusal :=
  writeTransaction p (placeReply p code .unknownRequest []) s

/-- R161, R189: what PORT RESET does to its port. -/
def resetPort (x : PortState) : PortState :=
  { x with queue := [], summary := List.replicate 25 false, lost := 0, filter1 := freshFilter, filter2 := freshFilter,
           frameErrors := 0, slot := none }

/-- PORT_RESET (R189): the slot is emptied before the reply is placed, so its flag is clear. -/
def execPortReset (p : Port) (s : State) : Host.Outcome State Fault Refusal :=
  request p 88 (fun s => taken (modifyPort p resetPort s)) s

/-- READ_PORT_STATUS (R190). -/
def execReadPortStatus (p : Port) (s : State) : Host.Outcome State Fault Refusal :=
  readRequest p 200 (fun _ => [])
    (fun s => num1 (portNumber p) ++ num1 (s.ports.get p).frameErrors ++ num4 s.seconds) s

end Sys2Proof.Machine
end

