-- ==== Sys2Proof/Machine/Power.lean ====
section
/-! DEFINITION. Machine/Power.lean: the supply and the RESET input: what is lost (R196), and the sequence that starts the part
(R197). Where the supply and the RESET input meet, each of the four commands does what log entry 23 says. -/

namespace Sys2Proof.Machine

/-- R17: a slot keeps its occupant and its enable. -/
def slotVolatile (x : Slot) : Slot := { x with sensed := .unknown, discrepancy := false }

/-- R197, step 1, for the tally: the retained fields of R41, and every other at its power-on value, permits withdrawn. -/
def tallyVolatile (t : Tally) : Tally :=
  { blankTally with bha := t.bha, stack := t.stack, handling := t.handling, state := t.state, makeupMin := t.makeupMin,
                    makeupMax := t.makeupMax }

/-- R85: the pump table, the four limits and V_p are retained. -/
def circVolatile (c : Circ) : Circ :=
  { blankCirc with pump1 := c.pump1, pump2 := c.pump2, lossThreshold := c.lossThreshold,
                   gainThreshold := c.gainThreshold, flowOutMax := c.flowOutMax, pitStep := c.pitStep,
                   pumped := c.pumped }

/-- R197, step 1: the counter at 0, both permits withdrawn, every volatile field at its power-on value (R17, R41, R44, R85,
R101, R163, R167, R191); the retained fields as they are. -/
def volatileReset (s : State) : State :=
  { s with seconds := 0, storeBlank := false, rack := { s.rack with slots := s.rack.slots.map slotVolatile },
           tally := tallyVolatile s.tally, depth := { blankDepth with hole := s.depth.hole },
           circ := circVolatile s.circ, lag := { s.lag with returnsLoss := false, returnsFlowOut := none },
           ports := freshPorts, modes := { s.modes with request := none } }

/-- R196, R198: a blank store filled with the factory values, and the store-blank flag set. -/
def fillFactory (s : State) : State :=
  { s with storeBlank := true, rack := blankRack, tally := blankTally, depth := blankDepth, circ := blankCirc,
           lag := blankLag, log := blankLog, meter := blankMeter, levels := defaultLevels, modes := blankModes,
           job := blankJob }

/-- R197, step 2. -/
def readStore (storeValid : Bool) (s : State) : State := if storeValid then s else fillFactory s

/-- R197, step 3: the mode chosen. -/
def chosenMode (s : State) : Mode := if s.job.isOpen ∧ entryFailing s = 0 then .watch else .setup

/-- R197, step 3: the mode becomes the one chosen, with MODE_CHANGED where it differs; no step of R175, and no permit yet. -/
def chooseMode (s : State) : State :=
  let old := s.modes.mode
  let new := chosenMode s
  if new = old then s else raise .modeChanged new.code old.code (s.setModes { s.modes with mode := new })

/-- R149, R197, step 4: a power event on the open ticket, if a job is open. -/
def countPowerEvent (s : State) : State :=
  match s.job.isOpen, s.meter.openTicket with
  | true, some t =>
    s.setMeter { s.meter with openTicket := some { t with powerEvents := satAdd Config.max16 t.powerEvents 1 } }
  | _, _ => s

/-- R41, R197, step 5: a rod in the handling position makes the tally UNRESOLVED. -/
def checkTally (s : State) : State :=
  match s.tally.handling with
  | some serial => raise .rodUnresolved serial 0 (s.setTally { s.tally with state := .unresolved })
  | none => s

/-- R197: the six steps, after which the part acts on transactions. -/
def powerUp (storeValid : Bool) (s : State) : State :=
  (drivePermits (checkTally (countPowerEvent (chooseMode (readStore storeValid (volatileReset s)))))).setPower .running

/-- R197: power comes, or stands, with RESET held: the volatile state fresh and the permits withdrawn; the rest of the sequence
waits for RESET to be withdrawn (log entry 23). -/
def heldByReset (s : State) : State := (volatileReset s).setPower .resetHeld

/-- POWER_ON (R197): the power-on sequence, at once unless the RESET input is held. -/
def execPowerOn (storeValid : Bool) (s : State) : Host.Outcome State Fault Refusal :=
  match s.power with
  | .off => .next (powerUp storeValid s)
  | .running => .next (powerUp storeValid s)
  | .offResetHeld => .next (heldByReset s)
  | .resetHeld => .next (heldByReset s)

/-- RESET_ASSERTED (R197): while it is held, no transaction, second or expiry has an effect, and both permits are withdrawn;
asserted in the dark, it holds the part when power comes. -/
def execResetAsserted (s : State) : Host.Outcome State Fault Refusal :=
  match s.power with
  | .running => .next ((withdrawPermits s).setPower .resetHeld)
  | .off => .next (s.setPower .offResetHeld)
  | .resetHeld => .next s
  | .offResetHeld => .next s

/-- RESET_RELEASED (R197): the power-on sequence, which counts as a power event; in the dark, only the input changes. -/
def execResetReleased (storeValid : Bool) (s : State) : Host.Outcome State Fault Refusal :=
  match s.power with
  | .resetHeld => .next (powerUp storeValid s)
  | .offResetHeld => .next (s.setPower .off)
  | .off => .next s
  | .running => .next s

/-- R196, R197: the supply lost; a RESET input that is held stays held. -/
def darkened : Power → Power
  | .off => .off
  | .running => .off
  | .resetHeld => .offResetHeld
  | .offResetHeld => .offResetHeld

/-- POWER_LOSS (R196): the volatile state is lost (it is held at its power-on values, log entry 24), the retained store stands,
and the part stops until power returns. -/
def execPowerLoss (s : State) : Host.Outcome State Fault Refusal := .next ((volatileReset s).setPower (darkened s.power))

end Sys2Proof.Machine
end

