-- ==== Sys2Proof/Machine/Rods.lean ====
section
/-! DEFINITION. Machine/Rods.lean: the requests of chapter 1, Rods and the Rack. -/

namespace Sys2Proof.Machine

/-- R3. A new record, and the rod into the slot. -/
def registerRodTaken (serial length od slot : Nat) (s : State) : State :=
  let rod : Rod := { serial := serial, length := length, od := od, rotatingSeconds := 0, jointsMade := 0, status := .ok }
  s.setRack (setOccupant slot (some serial) { s.rack with rods := insertRod rod s.rack.rods })

/-- REGISTER_ROD (R3). -/
def execRegisterRod (p : Port) (serial length od slot : Nat) (s : State) : Host.Outcome State Fault Refusal :=
  request p 1 (fun s =>
    checked
      [onlyFrom [.floor] p, onlyInSetup s,
       ((inRange 1 65535 serial).isNone || (inRange 1000 9999 length).isNone || (inRange 40 200 od).isNone ||
          (inRange 0 255 slot).isNone, .outOfRange),
       ((findRod s.rack.rods serial).isSome, .duplicate),
       (Config.maxRods ≤ s.rack.rods.length, .full),
       ((slotAt s.rack slot).occupant.isSome, .occupied)] s
      (taken (registerRodTaken serial length od slot s))) s

/-- DELETE_ROD (R4). -/
def execDeleteRod (p : Port) (serial : Nat) (s : State) : Host.Outcome State Fault Refusal :=
  request p 2 (fun s =>
    checked
      [onlyFrom [.floor] p, onlyInSetup s, (serial == 0, .outOfRange),
       ((findRod s.rack.rods serial).isNone, .noSuch), (!(s.rack.laidOut.contains serial), .busy)] s
      (taken (s.setRack { s.rack with rods := s.rack.rods.filter (fun r => r.serial != serial),
                                      laidOut := s.rack.laidOut.filter (· != serial) }))) s

/-- R5. The rod off the laid-out list, into the slot, OK again with its counters kept. -/
def restoreRodTaken (serial slot : Nat) (s : State) : State :=
  s.setRack (setOccupant slot (some serial)
    { s.rack with laidOut := s.rack.laidOut.filter (· != serial),
                  rods := modifyRod serial (fun r => { r with status := .ok }) s.rack.rods })

/-- RESTORE_ROD (R5). -/
def execRestoreRod (p : Port) (serial slot : Nat) (s : State) : Host.Outcome State Fault Refusal :=
  request p 3 (fun s =>
    checked
      [onlyFrom [.floor] p, onlyInSetup s, (serial == 0 || 255 < slot, .outOfRange),
       ((findRod s.rack.rods serial).isNone, .noSuch), (!(s.rack.laidOut.contains serial), .busy),
       ((slotAt s.rack slot).occupant.isSome, .occupied)] s
      (taken (restoreRodTaken serial slot s))) s

/-- SET_WEAR_LIMITS (R6): no rod's status changes. -/
def execSetWearLimits (p : Port) (joints hours : Nat) (s : State) : Host.Outcome State Fault Refusal :=
  request p 4 (fun s =>
    checked
      [onlyFrom [.floor] p, onlyInSetup s,
       ((inRange 50 5000 joints).isNone || (inRange 100 10000 hours).isNone, .outOfRange)] s
      (taken (s.setRack { s.rack with jointLimit := joints, hourLimit := hours }))) s

/-- R11: a slot takes its enable value. -/
def setSensing (on : Bool) (x : Slot) : Slot :=
  if x.sensing && !on then { x with sensing := false, sensed := .unknown, discrepancy := false }
  else { x with sensing := on }

/-- R11, R12: the slots of a bay changed by the values of a report or request, in slot order. -/
def overBay {α : Type} (f : α → Slot → Slot) (bay : Nat) (values : List α) (k : Rack) : Rack :=
  let first := 32 * bay
  { k with slots := k.slots.take first ++ List.zipWith f values ((k.slots.drop first).take values.length) ++
                      k.slots.drop (first + values.length) }

/-- SET_SLOT_SENSING (R11). -/
def execSetSlotSensing (p : Port) (bay : Nat) (enables : List Nat) (s : State) : Host.Outcome State Fault Refusal :=
  request p 5 (fun s =>
    checked
      [onlyFrom [.floor] p, onlyInSetup s, (7 < bay || (readAll switchOf enables).isNone, .outOfRange)] s
      (taken (s.setRack (overBay setSensing bay ((readAll switchOf enables).getD []) s.rack)))) s

/-- R12: a slot whose sensing is on takes the reported value, its flag recomputed (R10). -/
def senseSlot (v : Sensed) (x : Slot) : Slot :=
  if x.sensing then { x with sensed := v, discrepancy := slotDisagrees { x with sensed := v } } else x

/-- R10, R12: the slots of a bay whose flags go from clear to set, in ascending order. -/
def newDiscrepancies (before after : Rack) (bay : Nat) : List Nat :=
  ((List.range 32).map (32 * bay + ·)).filter fun n =>
    !(slotAt before n).discrepancy && (slotAt after n).discrepancy

/-- R12: a report taken. -/
def rackSenseTaken (bay : Nat) (values : List Sensed) (s : State) : State :=
  let k := overBay senseSlot bay values s.rack
  (newDiscrepancies s.rack k bay).foldl (fun s n => raise .rackDiscrepancy n 0 s) (s.setRack k)

/-- RACK_SENSE (R12). -/
def execRackSense (p : Port) (bay : Nat) (presence : List Nat) (s : State) : Host.Outcome State Fault Refusal :=
  request p 6 (fun s =>
    checked [onlyFrom [.floor] p, (7 < bay || (readAll presenceOf presence).isNone, .outOfRange)] s
      (taken (rackSenseTaken bay ((readAll presenceOf presence).getD []) s))) s

/-! ### Reads (R16) -/

/-- R183: a location as its code and a number, 0 for HANDLING and LAID_OUT. -/
def Location.bytes : Location → List Byte
  | .slot n => num1 0 ++ num2 n
  | .string k => num1 1 ++ num2 k
  | .handling => num1 2 ++ num2 0
  | .laidOut => num1 3 ++ num2 0

/-- R16: every field of a rod's record. -/
def rodBytes (s : State) (r : Rod) : List Byte :=
  num2 r.serial ++ num2 r.length ++ num1 r.od ++ num4 r.rotatingSeconds ++ num2 r.jointsMade ++ num1 r.status.code ++
    (locationOf s r.serial).bytes

/-- READ_ROD (R16). -/
def execReadRod (p : Port) (serial : Nat) (s : State) : Host.Outcome State Fault Refusal :=
  readRequest p 128
    (fun s => [(serial == 0, .outOfRange), ((findRod s.rack.rods serial).isNone, .noSuch)])
    (fun s => ((findRod s.rack.rods serial).map (rodBytes s)).getD []) s

/-- READ_ROD_LIST (R16). -/
def execReadRodList (p : Port) (position : Nat) (s : State) : Host.Outcome State Fault Refusal :=
  readRequest p 129 (fun _ => [(255 < position, .outOfRange)])
    (fun s => num2 s.rack.rods.length ++ counted num2 (page position 16 (s.rack.rods.map Rod.serial))) s

/-- READ_SLOT (R16). An empty recorded occupant is sent as a field that is absent, with its presence byte (log entry 37). -/
def execReadSlot (p : Port) (slot : Nat) (s : State) : Host.Outcome State Fault Refusal :=
  readRequest p 130 (fun _ => [(255 < slot, .outOfRange)])
    (fun s =>
      let x := slotAt s.rack slot
      optional 2 num2 x.occupant ++ flag x.sensing ++ num1 x.sensed.code ++ flag x.discrepancy) s

/-- READ_LAID_OUT_LIST (R16). -/
def execReadLaidOutList (p : Port) (position : Nat) (s : State) : Host.Outcome State Fault Refusal :=
  readRequest p 131 (fun _ => [(31 < position, .outOfRange)])
    (fun s => num1 s.rack.laidOut.length ++ counted num2 (page position 16 s.rack.laidOut)) s

/-- READ_WEAR_LIMITS (R16). -/
def execReadWearLimits (p : Port) (s : State) : Host.Outcome State Fault Refusal :=
  readRequest p 132 (fun _ => []) (fun s => num2 s.rack.jointLimit ++ num2 s.rack.hourLimit) s

end Sys2Proof.Machine
end

