-- ==== Sys2Proof/Machine/Strata.lean ====
section
/-! DEFINITION. Machine/Strata.lean: the requests of chapter 6, The Strata Log. -/

namespace Sys2Proof.Machine

/-! ### The detector (R112) -/

/-- SET_DRILL_BREAK (R112). -/
def execSetDrillBreak (p : Port) (mode ratio : Nat) (s : State) : Host.Outcome State Fault Refusal :=
  request p 56 (fun s =>
    checked
      [onlyFrom [.record] p, ((inRange 150 400 ratio).isNone || (detectorModeOf mode).isNone, .outOfRange)] s
      (taken (s.setLog (modifyDetector
        (fun d => { d with mode := (detectorModeOf mode).getD .off, ratio := ratio, candidate := none, armed := true })
        s.log)))) s

/-- RE_ARM (R112). -/
def execReArm (p : Port) (s : State) : Host.Outcome State Fault Refusal :=
  request p 57 (fun s =>
    checked [onlyFrom [.record] p] s (taken (s.setLog (modifyDetector (fun d => { d with armed := true }) s.log)))) s

/-! ### Edits -/

/-- R116: the checks of an edit request before those of its own rule. -/
def editChecks (p : Port) (s : State) : List (Bool × ReplyCode) :=
  [onlyFrom [.record] p, (s.modes.mode == .standby, .wrongMode), (!s.job.isOpen, .incomplete)]

/-- R116, check 4: an index that is not less than the number of intervals. -/
def noInterval (index : Nat) (s : State) : Bool × ReplyCode := (s.log.intervals.length ≤ index, .noSuch)

/-- R104, R117: a lithology code, 1–250 (log entry 18: 0 is refused). -/
def lithologyOf (v : Nat) : Option Nat := inRange 1 250 v

/-- R117. The interval's lithology and band, then the call of R118 where its effective band has changed. -/
def classifyTaken (index : Nat) (lithology : Option Nat) (band : Option Band) (s : State) : State :=
  postBand index
    (s.setLog (modifyInterval index (fun x => { x with lithology := lithology, band := band }) s.log))

/-- CLASSIFY (R117). -/
def execClassify (p : Port) (index : Nat) (lithology band : OptField) (s : State) :
    Host.Outcome State Fault Refusal :=
  request p 58 (fun s =>
    checked
      (editChecks p s ++
        [noInterval index s,
         ((readOptional lithology lithologyOf).isNone || (readOptional band bandOf).isNone, .outOfRange)]) s
      (taken (classifyTaken index ((readOptional lithology lithologyOf).getD none) ((readOptional band bandOf).getD none) s))) s

/-- CONFIRM (R119). -/
def execConfirm (p : Port) (index : Nat) (s : State) : Host.Outcome State Fault Refusal :=
  request p 59 (fun s =>
    checked (editChecks p s ++ [noInterval index s]) s
      (taken (s.setLog (modifyInterval index (fun x => { x with boundary := .confirmed }) s.log)))) s

/-- R120, steps 2 to 4: the upper interval joined with the lower. -/
def joined (upper lower : Interval) : Interval :=
  { upper with base := lower.base, drilledMm := upper.drilledMm + lower.drilledMm,
               drilledSeconds := satAdd Config.max32 upper.drilledSeconds lower.drilledSeconds,
               segments := upper.segments + lower.segments,
               lossVolume := satAdd Config.max32 upper.lossVolume lower.lossVolume,
               strike := if upper.strike.isSome then upper.strike else lower.strike }

/-- R120, R121: the detector after the OPEN interval has been merged or split. -/
def settleDetector (g : StrataLog) : StrataLog :=
  modifyDetector (fun d => { d with candidate := none, reference := meanRate (openInterval g) }) g

/-- R120, steps 2 to 5, on the log. -/
def mergeLog (index : Nat) (g : StrataLog) : StrataLog :=
  let lower := intervalAt g index
  let merged := { g with intervals := (g.intervals.modify (index - 1) fun upper => joined upper lower).eraseIdx index }
  if index = openIndex g then settleDetector merged else merged

/-- R120. The metering unit is called first where the two effective bands differ. -/
def mergeTaken (index : Nat) (s : State) : State :=
  let upper := intervalAt s.log (index - 1)
  let lower := intervalAt s.log index
  let band := effectiveBand s.meter.card upper
  let s := if band = effectiveBand s.meter.card lower then s
           else reband lower.top (bottomOf s lower) lower.posted band s
  s.setLog (mergeLog index s.log)

/-- MERGE (R120). -/
def execMerge (p : Port) (index : Nat) (s : State) : Host.Outcome State Fault Refusal :=
  request p 60 (fun s =>
    checked (editChecks p s ++ [noInterval index s, (index == 0, .outOfRange)]) s (taken (mergeTaken index s))) s

/-- R121: the completed segments whose tops lie in [top, d). -/
def segmentsAbove (start hole top d : Nat) : Nat :=
  let upTo := fun z => min (ceilDiv (z - start) Config.segmentLength) ((hole - start) / Config.segmentLength)
  upTo d - upTo top

/-- R121: the strike of an interval if its depth satisfies a condition. -/
def strikeWhere (c : Nat → Bool) (x : Interval) : Option Strike :=
  match x.strike with
  | some k => if c k.depth then some k else none
  | none => none

/-- R121: the upper part of a split at `d`, with `segments` completed segments above it. -/
def upperPart (d segments : Nat) (x : Interval) : Interval :=
  { x with base := some d, drilledMm := d - x.top, drilledSeconds := x.drilledSeconds * (d - x.top) / x.drilledMm,
           segments := segments, strike := strikeWhere (fun z => z < d) x }

/-- R121: the lower part of a split at `d`. -/
def lowerPart (d segments : Nat) (x : Interval) : Interval :=
  { x with top := d, boundary := .confirmed, drilledMm := x.drilledMm - (d - x.top),
           drilledSeconds := x.drilledSeconds - x.drilledSeconds * (d - x.top) / x.drilledMm,
           segments := x.segments - segments, breakFlag := false, lossVolume := 0,
           strike := strikeWhere (fun z => d ≤ z) x }

/-- R121: the interval replaced by its two parts. -/
def splitLog (start hole d : Nat) (g : StrataLog) : StrataLog :=
  let n := indexAt g.intervals d
  let x := intervalAt g n
  let segments := segmentsAbove start hole x.top d
  let split := { g with intervals := g.intervals.take n ++ [upperPart d segments x, lowerPart d segments x] ++
                                       g.intervals.drop (n + 1) }
  if n = openIndex g then settleDetector split else split

/-- SPLIT (R121). -/
def execSplit (p : Port) (depth : Nat) (s : State) : Host.Outcome State Fault Refusal :=
  request p 61 (fun s =>
    checked
      (editChecks p s ++
        [(depth ≤ startDepth s || holeDepth s < depth || s.log.intervals.any (fun x => x.top == depth), .outOfRange),
         (Config.maxIntervals ≤ s.log.intervals.length, .full)]) s
      (taken (s.setLog (splitLog (startDepth s) (holeDepth s) depth s.log)))) s

/-- WATER_STRIKE (R123). -/
def execWaterStrike (p : Port) (depth : Nat) (yieldRate : OptField) (s : State) :
    Host.Outcome State Fault Refusal :=
  request p 62 (fun s =>
    checked
      (editChecks p s ++
        [(depth < startDepth s || holeDepth s < depth || (readOptional yieldRate (inRange 1 5000)).isNone, .outOfRange)]) s
      (taken (s.setLog (modifyInterval (indexAt s.log.intervals depth)
        (fun x => { x with strike := some { depth := depth, yieldRate := (readOptional yieldRate (inRange 1 5000)).getD none,
                                            source := .reported } }) s.log)))) s

/-- CLEAR_WATER_STRIKE (R123). -/
def execClearWaterStrike (p : Port) (index : Nat) (s : State) : Host.Outcome State Fault Refusal :=
  request p 63 (fun s =>
    checked (editChecks p s ++ [noInterval index s]) s
      (taken (s.setLog (modifyInterval index (fun x => { x with strike := none }) s.log)))) s

/-! ### Reads (R125) -/

/-- R108: the top of the current segment; a free value before any job has been opened (log entry 13). -/
def currentSegmentTop (s : State) : Nat :=
  match s.job.start, s.depth.hole with
  | some start, some hole => start + Config.segmentLength * ((hole - start) / Config.segmentLength)
  | _, _ => Config.segmentTopBeforeFirstJob.toNat

/-- R125: the candidate of the detector. -/
def candidateBytes (c : Candidate) : List Byte := num4 c.top ++ num4 c.seconds ++ num1 c.kind.code ++ num4 c.mean

/-- R125: the last completed segment. -/
def segmentBytes (x : Segment) : List Byte := num4 x.top ++ num4 x.seconds ++ num2 x.rate

/-- READ_LOG (R125). -/
def execReadLog (p : Port) (s : State) : Host.Outcome State Fault Refusal :=
  readRequest p 168 (fun _ => [])
    (fun s =>
      let d := s.log.detector
      num2 s.log.intervals.length ++ num2 s.log.samples.length ++ num1 d.mode.code ++ num2 d.ratio ++ flag d.armed ++
        optional 4 num4 d.reference ++ optional 13 candidateBytes d.candidate ++ num4 s.log.segmentSeconds ++
        num4 (currentSegmentTop s) ++ optional 10 segmentBytes s.log.lastSegment) s

/-- R104, R183: the status of an interval: OPEN for the last one, otherwise that of its top boundary. -/
def statusByte (g : StrataLog) (n : Nat) : Nat := if n = openIndex g then 0 else (intervalAt g n).boundary.code

/-- R125: a water strike. -/
def strikeBytes (k : Strike) : List Byte := num4 k.depth ++ optional 2 num2 k.yieldRate ++ num1 k.source.code

/-- R125: every field of an interval, its status and mean rate, and its samples; the lowest and the highest number of none are sent
as absent fields (log entry 42). -/
def intervalBytes (g : StrataLog) (n : Nat) : List Byte :=
  let x := intervalAt g n
  let members := (membersOf g.samples x).map Sample.number
  num4 x.top ++ optional 4 num4 x.base ++ num1 x.boundary.code ++ optional 1 num1 x.lithology ++
    optional 1 (fun b : Band => num1 b.code) x.band ++ num1 x.posted.code ++ num4 x.drilledMm ++
    num4 x.drilledSeconds ++ num2 x.segments ++ flag x.breakFlag ++ num4 x.lossVolume ++
    optional 8 strikeBytes x.strike ++ num1 (statusByte g n) ++ optional 4 num4 (meanRate x) ++
    num2 members.length ++ optional 2 num2 members.head? ++ optional 2 num2 members.getLast?

/-- READ_INTERVAL (R125). -/
def execReadInterval (p : Port) (index : Nat) (s : State) : Host.Outcome State Fault Refusal :=
  readRequest p 169 (fun s => [(399 < index, .outOfRange), noInterval index s]) (fun s => intervalBytes s.log index) s

/-- READ_INTERVAL_AT_DEPTH (R125). -/
def execReadIntervalAtDepth (p : Port) (depth : Nat) (s : State) : Host.Outcome State Fault Refusal :=
  readRequest p 170 (fun _ => []) (fun s => num2 (indexAt s.log.intervals depth)) s

/-- R125: a record of the sample register. -/
def sampleBytes (r : Sample) : List Byte :=
  num2 r.number ++ num4 r.origin ++ num1 r.status.code ++ num4 r.arrival ++ flag r.caught

/-- READ_SAMPLES (R125). -/
def execReadSamples (p : Port) (number : Nat) (s : State) : Host.Outcome State Fault Refusal :=
  readRequest p 171 (fun _ => [((inRange 1 3200 number).isNone, .outOfRange)])
    (fun s =>
      num2 s.log.samples.length ++
        counted sampleBytes ((s.log.samples.filter fun r => number ≤ r.number).take 4)) s

end Sys2Proof.Machine
end

