-- ==== Sys2Proof/Machine/Dispatch.lean ====
section
/-! DEFINITION. Machine/Dispatch.lean: what each command does to everything but the queue: one arm per constructor. -/

namespace Sys2Proof.Machine

def exec (i : Instr) (s : State) : Host.Outcome State Fault Refusal :=
  match i with
  | .registerRod p serial length od slot => Sys2Proof.Machine.execRegisterRod p serial length od slot s
  | .deleteRod p serial => Sys2Proof.Machine.execDeleteRod p serial s
  | .restoreRod p serial slot => Sys2Proof.Machine.execRestoreRod p serial slot s
  | .setWearLimits p joints hours => Sys2Proof.Machine.execSetWearLimits p joints hours s
  | .setSlotSensing p bay enables => Sys2Proof.Machine.execSetSlotSensing p bay enables s
  | .rackSense p bay presence => Sys2Proof.Machine.execRackSense p bay presence s
  | .setBha p components => Sys2Proof.Machine.execSetBha p components s
  | .setSlips p => Sys2Proof.Machine.execSetSlips p s
  | .releaseSlips p pins => Sys2Proof.Machine.execReleaseSlips p pins s
  | .unlatch p => Sys2Proof.Machine.execUnlatch p s
  | .latch p => Sys2Proof.Machine.execLatch p s
  | .breakJoint p => Sys2Proof.Machine.execBreakJoint p s
  | .pickRod p slot => Sys2Proof.Machine.execPickRod p slot s
  | .stab p => Sys2Proof.Machine.execStab p s
  | .makeJoint p => Sys2Proof.Machine.execMakeJoint p s
  | .rackRod p slot => Sys2Proof.Machine.execRackRod p slot s
  | .layOutRod p => Sys2Proof.Machine.execLayOutRod p s
  | .resolveRod p destination slot => Sys2Proof.Machine.execResolveRod p destination slot s
  | .setMakeupLimits p minimum maximum => Sys2Proof.Machine.execSetMakeupLimits p minimum maximum s
  | .block p height rotation => Sys2Proof.Machine.execBlock p height rotation s
  | .downStart p => Sys2Proof.Machine.execDownStart p s
  | .downEnd p => Sys2Proof.Machine.execDownEnd p s
  | .setPump p pump displacement efficiency maxRate => Sys2Proof.Machine.execSetPump p pump displacement efficiency maxRate s
  | .setCirculationLimits p loss gain flowOutMax pitStep => Sys2Proof.Machine.execSetCirculationLimits p loss gain flowOutMax pitStep s
  | .circulation p p1 p2 flowOut pit => Sys2Proof.Machine.execCirculation p p1 p2 flowOut pit s
  | .additive p item units => Sys2Proof.Machine.execAdditive p item units s
  | .setCasingProgram p sections => Sys2Proof.Machine.execSetCasingProgram p sections s
  | .sampleCaught p number => Sys2Proof.Machine.execSampleCaught p number s
  | .setDrillBreak p mode ratio => Sys2Proof.Machine.execSetDrillBreak p mode ratio s
  | .reArm p => Sys2Proof.Machine.execReArm p s
  | .classify p index lithology band => Sys2Proof.Machine.execClassify p index lithology band s
  | .confirm p index => Sys2Proof.Machine.execConfirm p index s
  | .merge p index => Sys2Proof.Machine.execMerge p index s
  | .split p depth => Sys2Proof.Machine.execSplit p depth s
  | .waterStrike p depth yieldRate => Sys2Proof.Machine.execWaterStrike p depth yieldRate s
  | .clearWaterStrike p index => Sys2Proof.Machine.execClearWaterStrike p index s
  | .setBandRates p rates defaultBand => Sys2Proof.Machine.execSetBandRates p rates defaultBand s
  | .setTierMultipliers p multipliers => Sys2Proof.Machine.execSetTierMultipliers p multipliers s
  | .setHourlyRates p rates => Sys2Proof.Machine.execSetHourlyRates p rates s
  | .setAdditivePrices p prices => Sys2Proof.Machine.execSetAdditivePrices p prices s
  | .closeTicket p reference => Sys2Proof.Machine.execCloseTicket p reference s
  | .acknowledgeTicket p number => Sys2Proof.Machine.execAcknowledgeTicket p number s
  | .setNoticeLevels p levels => Sys2Proof.Machine.execSetNoticeLevels p levels s
  | .setNoticeFilter p pair enable mask pattern => Sys2Proof.Machine.execSetNoticeFilter p pair enable mask pattern s
  | .enterSetup p => Sys2Proof.Machine.execEnterSetup p s
  | .enterRun p => Sys2Proof.Machine.execEnterRun p s
  | .enterWatch p => Sys2Proof.Machine.execEnterWatch p s
  | .enterStandby p => Sys2Proof.Machine.execEnterStandby p s
  | .cancelMode p => Sys2Proof.Machine.execCancelMode p s
  | .setWakeTable p sources => Sys2Proof.Machine.execSetWakeTable p sources s
  | .portReset p => Sys2Proof.Machine.execPortReset p s
  | .openJob p number startDepth sampleInterval => Sys2Proof.Machine.execOpenJob p number startDepth sampleInterval s
  | .closeJob p reference => Sys2Proof.Machine.execCloseJob p reference s
  | .readRod p serial => Sys2Proof.Machine.execReadRod p serial s
  | .readRodList p position => Sys2Proof.Machine.execReadRodList p position s
  | .readSlot p slot => Sys2Proof.Machine.execReadSlot p slot s
  | .readLaidOutList p position => Sys2Proof.Machine.execReadLaidOutList p position s
  | .readWearLimits p => Sys2Proof.Machine.execReadWearLimits p s
  | .readTally p pins => Sys2Proof.Machine.execReadTally p pins s
  | .readStack p position => Sys2Proof.Machine.execReadStack p position s
  | .readBha p => Sys2Proof.Machine.execReadBha p s
  | .readMakeupLimits p => Sys2Proof.Machine.execReadMakeupLimits p s
  | .readDepth p => Sys2Proof.Machine.execReadDepth p s
  | .readCirculation p => Sys2Proof.Machine.execReadCirculation p s
  | .readChannel p channel => Sys2Proof.Machine.execReadChannel p channel s
  | .readPumps p => Sys2Proof.Machine.execReadPumps p s
  | .readCasingProgram p => Sys2Proof.Machine.execReadCasingProgram p s
  | .readAnnulus p => Sys2Proof.Machine.execReadAnnulus p s
  | .readLagQueue p position => Sys2Proof.Machine.execReadLagQueue p position s
  | .readLog p => Sys2Proof.Machine.execReadLog p s
  | .readInterval p index => Sys2Proof.Machine.execReadInterval p index s
  | .readIntervalAtDepth p depth => Sys2Proof.Machine.execReadIntervalAtDepth p depth s
  | .readSamples p number => Sys2Proof.Machine.execReadSamples p number s
  | .readTicket p selector page => Sys2Proof.Machine.execReadTicket p selector page s
  | .readRateCard p group => Sys2Proof.Machine.execReadRateCard p group s
  | .readJobTotals p selector => Sys2Proof.Machine.execReadJobTotals p selector s
  | .readNotice p => Sys2Proof.Machine.execReadNotice p s
  | .readSummary p => Sys2Proof.Machine.execReadSummary p s
  | .readNoticeStatus p => Sys2Proof.Machine.execReadNoticeStatus p s
  | .readNoticeLevels p => Sys2Proof.Machine.execReadNoticeLevels p s
  | .readMode p => Sys2Proof.Machine.execReadMode p s
  | .readPortStatus p => Sys2Proof.Machine.execReadPortStatus p s
  | .readJob p => Sys2Proof.Machine.execReadJob p s
  | .readTransaction p clocked => Sys2Proof.Machine.execReadTransaction p clocked s
  | .badFrame p code => Sys2Proof.Machine.execBadFrame p code s
  | .unknownRequest p code => Sys2Proof.Machine.execUnknownRequest p code s
  | .deviceSecond pins => Sys2Proof.Machine.execDeviceSecond pins s
  | .makeupExpired => Sys2Proof.Machine.execMakeupExpired s
  | .circStale => Sys2Proof.Machine.execCircStale s
  | .permitFault permit sense => Sys2Proof.Machine.execPermitFault permit sense s
  | .pendingModeTaken => Sys2Proof.Machine.execPendingModeTaken s
  | .sampleArrival => Sys2Proof.Machine.execSampleArrival s
  | .powerOn storeValid => Sys2Proof.Machine.execPowerOn storeValid s
  | .resetAsserted => Sys2Proof.Machine.execResetAsserted s
  | .resetReleased storeValid => Sys2Proof.Machine.execResetReleased storeValid s
  | .powerLoss => Sys2Proof.Machine.execPowerLoss s

end Sys2Proof.Machine
end

