-- ==== Sys2Proof/Safety.lean ====
section
/-! DEFINITION. Safety.lean: what the manual promises of the whole part, whatever commands it is given: conditions on a state
that hold after the first power-on and that every step is claimed to keep (Certificates/Slice0/Obligations.lean). -/

namespace Sys2Proof.Machine

/-! ### A request answered (R177, R178, R185) -/

/-- R178, R185: what a request comes to once its rule has left the part in state `s`: its reply stands in the slot of its port,
and then its wake events are judged. -/
def settled (p : Port) (code : Nat) (c : ReplyCode) (payload : List Byte) (s : State) : State :=
  wakeEvents (requestWake p code) (placeReply p code c payload s)

/-! ### Rods (R1, R2, R15, R21, R22) -/

/-- R21: the tally states in which the handling position holds a rod. -/
def heldState (x : TallyState) : Bool := x == .rodHeldAdd || x == .rodHeldRemove || x == .unresolved

/-- R21, R22: the handling position holds a rod in exactly three states, and a stab runs in two states only. -/
abbrev TallyCoherent (t : Tally) : Prop :=
  t.handling.isSome = heldState t.state ∧
    (t.stab.isSome = true → t.state = .inSlipsFree ∨ t.state = .rodHeldAdd)

/-- R2: the serials in the four places: the slots, the stack, the handling position and the laid-out list. -/
def serialsPlaced (s : State) : List Nat :=
  s.rack.slots.filterMap Slot.occupant ++ s.tally.stack ++ s.tally.handling.toList ++ s.rack.laidOut

/-- R1, R2, R10, R15: every registered rod is in exactly one place and every placed rod is registered, once; the register is
in ascending order of serial; a rod is REJECTED exactly while it is on the laid-out list; the capacities hold. -/
abbrev RodsPlaced (s : State) : Prop :=
  TallyCoherent s.tally ∧ s.rack.slots.length = Config.rackSlots ∧ s.rack.rods.length ≤ Config.maxRods ∧
    s.rack.laidOut.length ≤ Config.maxLaidOut ∧ (s.rack.rods.map Rod.serial).Pairwise (· < ·) ∧
    (serialsPlaced s).Perm (s.rack.rods.map Rod.serial) ∧
    ∀ r ∈ s.rack.rods, r.status = .rejected ↔ r.serial ∈ s.rack.laidOut

/-! ### Permit lines (R38, R39, R197) -/

/-- R38, R39, R197: each line is driven at the level its rule gives while the part runs, and withdrawn while it is held or
dark. -/
abbrev PermitsFollow (s : State) : Prop :=
  s.tally.slips.drive = (s.power == .running && slipsLevel s.tally s.modes) ∧
    s.tally.pump.drive = (s.power == .running && pumpLevel s.tally s.modes)

/-! ### Depth (R53, R55, R193) -/

/-- R44, R53, R55, R193: bit depth, string-top height and block height are present together; while a job is open there is a
hole and the bit is not below it; the hole is not deeper than its cap. -/
abbrev BitWithinHole (s : State) : Prop :=
  s.depth.stringTop.isSome = s.depth.block.isSome ∧ s.depth.bit.isSome = s.depth.block.isSome ∧
    (s.job.isOpen = true → s.depth.hole.isSome = true ∧ ∀ h ∈ s.depth.hole, ∀ z ∈ s.depth.bit, z ≤ h) ∧
    ∀ h ∈ s.depth.hole, h ≤ Config.holeCap

/-! ### Circulation (R77) -/

/-- R77: LOSS and GAIN are never set together. -/
abbrev AlarmsApart (s : State) : Prop := ¬ (s.circ.loss = true ∧ s.circ.gain = true)

/-! ### Samples (R92, R93, R106) -/

/-- R93, R106: the numbers issued are 1 to the next number less one; each is in the queue or in the register, once, and each
list is in ascending order; the queue holds no more than 64 entries. -/
abbrev SamplesAccounted (s : State) : Prop :=
  (s.lag.queue.map LagEntry.number ++ s.log.samples.map Sample.number).Perm (List.range' 1 (s.lag.nextSample - 1)) ∧
    (s.lag.queue.map LagEntry.number).Pairwise (· < ·) ∧ (s.log.samples.map Sample.number).Pairwise (· < ·) ∧
    s.lag.queue.length ≤ Config.maxLag ∧ 1 ≤ s.lag.nextSample

/-! ### The strata log (R104, R105) -/

/-- R105: from its first interval down to the hole depth `h`, a list of intervals is contiguous, only the last one is OPEN, its
top is not below the hole, and the drilled mm of each interval is the length of its range. -/
def contiguous (h : Nat) : List Interval → Bool
  | [] => false
  | [x] => x.base.isNone && x.top ≤ h && x.drilledMm == h - x.top
  | x :: y :: rest =>
    x.base == some y.top && x.top ≤ y.top && x.drilledMm == y.top - x.top && contiguous h (y :: rest)

/-- R104, R105, R112: once a job has been opened, the log covers the hole from the start depth down, in 1 to 400 intervals, the
first one CONFIRMED; a candidate lies in the OPEN interval, above the hole depth. -/
abbrev LogCoversHole (s : State) : Prop :=
  s.log.intervals.length ≤ Config.maxIntervals ∧ (s.job.isOpen = true → s.job.start.isSome = true) ∧
    ∀ start ∈ s.job.start, s.depth.hole.isSome = true ∧ ∀ h ∈ s.depth.hole,
      contiguous h s.log.intervals = true ∧
      (∀ x ∈ s.log.intervals.head?, x.top = start ∧ x.boundary = .confirmed) ∧
      ∀ c ∈ s.log.detector.candidate, (openInterval s.log).top ≤ c.top ∧ c.top + Config.segmentLength ≤ h

/-! ### Tickets (R132, R135, R146) -/

/-- R133, R135: the seconds on a line, 0 for a line that counts none. -/
def lineSeconds (l : Line) : Nat :=
  match l.key with
  | .time _ => l.quantity.toNat
  | .unwitnessed => l.quantity.toNat
  | .setup => l.quantity.toNat
  | _ => 0

/-- R135: the seconds on the TIME, UNWITNESSED and SETUP lines of a ticket. -/
def ticketSeconds (t : Ticket) : Nat := (t.lines.map lineSeconds).sum

/-- R135: the seconds of a closed ticket sum to its job clock at close less its job clock at open. -/
def closedSecondsOk (t : Ticket) : Bool := t.clockClose == some (t.clockOpen + ticketSeconds t)

/-- R132, R135, R146: a ticket is open exactly while a job is; its seconds sum to the job clock less its job clock at open, those
of a closed ticket to its job clock at close; the seconds of the job totals sum to the job clock. -/
abbrev SecondsAccounted (s : State) : Prop :=
  s.meter.openTicket.isSome = s.job.isOpen ∧
    (∀ t ∈ s.meter.openTicket, t.clockOpen + ticketSeconds t = s.job.clock) ∧
    (∀ t ∈ s.meter.closed, closedSecondsOk t = true) ∧ s.meter.closed.length ≤ Config.maxClosed ∧
    s.meter.totals.seconds.length = 5 ∧ s.meter.totals.seconds.sum = s.job.clock ∧ s.job.clock ≤ Config.max32

/-! ### Notices (R155, R158) -/

/-- R155, R158: the queue of a port holds up to 16 records, none of which outranks one ahead of it; the summary has a flag for
each of the 25 kinds. -/
abbrev PortInOrder (x : PortState) : Prop :=
  x.queue.length ≤ Config.maxNotices ∧ x.queue.Pairwise (fun a b => outranks b a = false) ∧ x.summary.length = 25

/-- R155: the three ports. -/
abbrev NoticesInOrder (s : State) : Prop :=
  PortInOrder s.ports.floor ∧ PortInOrder s.ports.mud ∧ PortInOrder s.ports.record

/-! ### Mode control (R167, R172, R173) -/

/-- R167, R172, R173: a pending mode request has the target SETUP or STANDBY, which is not the mode held, and its condition does
not hold: one whose condition holds has been taken. -/
abbrev PendingWaits (s : State) : Prop :=
  ∀ r ∈ s.modes.request, (r.target = .setup ∨ r.target = .standby) ∧ r.target ≠ s.modes.mode ∧ pendingHolds s r = false

end Sys2Proof.Machine
end

