-- ==== Sys2Proof/Certificates/Slice0/Obligations.lean ====
section
/-! DEFINITION. Certificates/Slice0/Obligations.lean: the statements for the provers, in the order of the manual's chapters. A
statement about a request gives its whole rule: the reply of each check in the order of the checks, and, where every check
passes, the state that the request leaves, written out field by field, so that what it leaves alone is part of it. -/

section

open Sys2Proof Sys2Proof.Machine

/-! ### The queue and the reset state -/

/-- The command at the front of the queue is taken, with the rest of the queue waiting; the model's choice (log entry 2): on an
empty queue the part idles. -/
def Obligations.StepTakesFrontCommand : Prop :=
  (∀ (c : Instr) (rest : List Instr) (s : State),
    step { s with pending := c :: rest } = exec c { s with pending := rest }) ∧
  ∀ s : State, s.pending = [] → step s = .next s

/-- R198: what a blank store gives, field by field, as the reset state holds it. -/
def Obligations.ResetHoldsFactoryState : Prop :=
  let s := State.reset
  s.rack.rods = [] ∧ s.rack.slots.length = 256 ∧
    (∀ x ∈ s.rack.slots, x.occupant = none ∧ x.sensing = false ∧ x.sensed = .unknown ∧ x.discrepancy = false) ∧
    s.rack.laidOut = [] ∧ s.rack.jointLimit = 500 ∧ s.rack.hourLimit = 1500 ∧
    s.tally.bha = [] ∧ s.tally.stack = [] ∧ s.tally.handling = none ∧ s.tally.state = .onBlock ∧
    s.tally.makeupMin = 4 ∧ s.tally.makeupMax = 120 ∧ s.depth.hole = none ∧
    s.circ.pump1 = { displacement := 0, efficiency := 1000, maxRate := 100 } ∧
    s.circ.pump2 = { displacement := 0, efficiency := 1000, maxRate := 100 } ∧
    s.circ.lossThreshold = 60 ∧ s.circ.gainThreshold = 60 ∧ s.circ.flowOutMax = 3000 ∧ s.circ.pitStep = 800 ∧
    s.lag.program = [] ∧ s.lag.queue = [] ∧ s.lag.nextSample = 1 ∧
    (∃ x, s.log.intervals = [x] ∧ x.top = 0 ∧ x.posted = .bandB) ∧
    s.log.detector.mode = .single ∧ s.log.detector.ratio = 200 ∧
    s.meter.card.bandRates = [0, 0, 0, 0] ∧ s.meter.card.hourly = [0, 0, 0, 0, 0] ∧
    s.meter.card.prices = [0, 0, 0, 0, 0, 0, 0, 0] ∧ (∀ m ∈ s.meter.card.multipliers, m = 1000) ∧
    s.meter.card.multipliers.length = 8 ∧ s.meter.card.defaultBand = .bandB ∧
    s.meter.openTicket = none ∧ s.meter.closed = [] ∧
    s.levels = [0, 0, 0, 0, 1, 1, 1, 1, 1, 1, 1, 2, 2, 2, 2, 2, 2, 2, 2, 3, 3, 3, 3, 3, 3] ∧
    (∀ w, s.modes.flags w = { wake := false, notice := false }) ∧ s.job.isOpen = false ∧ s.modes.mode = .setup

/-- The model's choice (log entry 3): the reset state is what the power-on of a part with a blank store leaves, whatever stood
before, but for the commands that wait; with the RESET input held the sequence waits for it (Obligations.PowerAndResetInput). -/
def Obligations.BlankPowerOnGivesReset : Prop :=
  ∀ s : State, s.power = .off ∨ s.power = .running → exec (.powerOn false) s = .next { State.reset with pending := s.pending }

/-- The reset state meets every condition of Safety.lean. -/
def Obligations.ResetMeetsInvariants : Prop :=
  RodsPlaced State.reset ∧ PermitsFollow State.reset ∧ BitWithinHole State.reset ∧ AlarmsApart State.reset ∧
    SamplesAccounted State.reset ∧ LogCoversHole State.reset ∧ SecondsAccounted State.reset ∧
    NoticesInOrder State.reset ∧ PendingWaits State.reset

/-! ### What every step keeps -/

/-- R1, R2, R15, R21, R22: rods are neither lost nor doubled. -/
def Obligations.StepKeepsRodsPlaced : Prop :=
  ∀ s t : State, RodsPlaced s → step s = .next t → RodsPlaced t

/-- R38, R39, R197: the permit lines follow the tally and the mode on a running part, and are withdrawn while RESET is held; that
they are withdrawn on a dark part is the model's choice (log entry 23). -/
def Obligations.StepKeepsPermitsFollow : Prop :=
  ∀ s t : State, PermitsFollow s → step s = .next t → PermitsFollow t

/-- R52, R53, R55: the bit is never reported below the hole of an open job. -/
def Obligations.StepKeepsBitWithinHole : Prop :=
  ∀ s t : State, BitWithinHole s → step s = .next t → BitWithinHole t

/-- R77: LOSS and GAIN are never set together. -/
def Obligations.StepKeepsAlarmsApart : Prop :=
  ∀ s t : State, AlarmsApart s → step s = .next t → AlarmsApart t

/-- R91, R93, R106: every sample number issued is in the queue or in the register, once. -/
def Obligations.StepKeepsSamplesAccounted : Prop :=
  ∀ s t : State, SamplesAccounted s → step s = .next t → SamplesAccounted t

/-- R104, R105: the log covers the hole without gap or overlap. -/
def Obligations.StepKeepsLogCoversHole : Prop :=
  ∀ s t : State, LogCoversHole s → step s = .next t → LogCoversHole t

/-- R132, R135, R146: every job-clock second stands on one ticket line and in the job totals. -/
def Obligations.StepKeepsSecondsAccounted : Prop :=
  ∀ s t : State, SecondsAccounted s → step s = .next t → SecondsAccounted t

/-- R155, R156, R158: the notice queues stay in order and within their size. -/
def Obligations.StepKeepsNoticesInOrder : Prop :=
  ∀ s t : State, NoticesInOrder s → step s = .next t → NoticesInOrder t

/-- R167, R172, R173: a pending mode request is taken as soon as its condition holds. -/
def Obligations.StepKeepsPendingWaits : Prop :=
  ∀ s t : State, PendingWaits s → step s = .next t → PendingWaits t

/-! ### Frames on the wire -/

/-- R181, R182, R187: the frame of every well-formed request is received as that request. The model's choices: the table gives no
bits, so frames are decoded apart from it (log entry 28); the sense levels are operands that no frame carries (log entry 4); the
byte that a request without fields carries is not kept (log entry 35). -/
def Obligations.ReceiveInvertsEncode : Prop :=
  ∀ (i : Instr) (p : Port) (pins : SensePins) (bs : List Byte), i.wf = true → i.port = some p →
    (∀ x ∈ i.pins, x = pins) → i.encode = some bs → receive p pins bs = some i

/-- R181, R182, R187, 10.8: frames written out byte by byte, with the commands they make. -/
def Obligations.ReceiveSpelledFrames : Prop :=
  ∀ pins : SensePins,
    receive .floor pins [6, 32, 160, 15, 1, 42] = some (.block .floor 4000 1) ∧
    receive .floor pins [9, 1, 208, 7, 112, 23, 114, 1, 37] = some (.registerRod .floor 2000 6000 114 1) ∧
    receive .floor pins [4, 18, 0, 234] = some (.releaseSlips .floor pins) ∧
    receive .mud pins [9, 42, 10, 0, 88, 2, 232, 3, 126] = some (.circulation .mud 10 0 600 1000) ∧
    receive .record pins [9, 58, 3, 0, 1, 12, 0, 0, 173] = some (.classify .record 3 ⟨1, 12⟩ ⟨0, 0⟩) ∧
    receive .record pins [11, 96, 7, 0, 64, 226, 1, 0, 208, 7, 148] = some (.openJob .record 7 123456 2000) ∧
    receive .mud pins [4, 99, 0, 153] = some (.unknownRequest .mud 99) ∧
    receive .mud pins [5, 49, 1, 0, 201] = some (.sampleCaught .mud 1) ∧
    receive .mud pins [0, 0, 0] = some (.readTransaction .mud 3) ∧ receive .mud pins [] = none

/-- R187, checks 1, 2 and 3: a write transaction whose length byte or sum fails is a bad frame, one that passes both with a
code outside the index is an unknown request; R187, check 4: one with a listed code and a payload of the wrong length is bad. -/
def Obligations.ReceiveRefusesBadFrames : Prop :=
  ∀ (p : Port) (pins : SensePins) (n : Byte) (bs : List Byte), n ≠ 0 →
    (¬ (4 ≤ n.toNat ∧ n.toNat ≤ 64 ∧ bs.length + 1 = n.toNat) →
      receive p pins (n :: bs) = some (.badFrame p (bs.headD 0).toNat)) ∧
    ((n :: bs).foldl (· + ·) 0 ≠ 0 → receive p pins (n :: bs) = some (.badFrame p (bs.headD 0).toNat)) ∧
    (4 ≤ n.toNat ∧ n.toNat ≤ 64 ∧ bs.length + 1 = n.toNat → (n :: bs).foldl (· + ·) 0 = 0 →
      (requestCodes.contains (bs.headD 0).toNat = false →
        receive p pins (n :: bs) = some (.unknownRequest p (bs.headD 0).toNat)) ∧
      (∀ widths, requestWidths (bs.headD 0).toNat (bs.drop 1).dropLast = some widths →
        widths.sum ≠ (bs.drop 1).dropLast.length →
        receive p pins (n :: bs) = some (.badFrame p (bs.headD 0).toNat)))

/-! ### Chapter 1: rods and the rack -/

/-- R3, R4: REGISTER ROD and DELETE ROD. -/
def Obligations.RodRegisterRequests : Prop :=
  (∀ (p : Port) (serial length od slot : Nat) (s : State), s.power = .running →
    exec (.registerRod p serial length od slot) s = .next (
      if p ≠ .floor then settled p 1 .notPermitted [] s
      else if s.modes.mode ≠ .setup then settled p 1 .wrongMode [] s
      else if ¬ (1 ≤ serial ∧ serial ≤ 65535 ∧ 1000 ≤ length ∧ length ≤ 9999 ∧ 40 ≤ od ∧ od ≤ 200 ∧ slot ≤ 255) then
        settled p 1 .outOfRange [] s
      else if ∃ r ∈ s.rack.rods, r.serial = serial then settled p 1 .duplicate [] s
      else if 256 ≤ s.rack.rods.length then settled p 1 .full [] s
      else if (slotAt s.rack slot).occupant ≠ none then settled p 1 .occupied [] s
      else settled p 1 .ok [] { s with rack := { s.rack with
        rods := insertRod { serial := serial, length := length, od := od, rotatingSeconds := 0, jointsMade := 0,
                            status := .ok } s.rack.rods,
        slots := s.rack.slots.set slot { slotAt s.rack slot with
          occupant := some serial, sensed := .unknown, discrepancy := false } } })) ∧
  ∀ (p : Port) (serial : Nat) (s : State), s.power = .running →
    exec (.deleteRod p serial) s = .next (
      if p ≠ .floor then settled p 2 .notPermitted [] s
      else if s.modes.mode ≠ .setup then settled p 2 .wrongMode [] s
      else if serial = 0 then settled p 2 .outOfRange [] s
      else if ¬ ∃ r ∈ s.rack.rods, r.serial = serial then settled p 2 .noSuch [] s
      else if serial ∉ s.rack.laidOut then settled p 2 .busy [] s
      else settled p 2 .ok [] { s with rack := { s.rack with
        rods := s.rack.rods.filter (fun r => r.serial != serial),
        laidOut := s.rack.laidOut.filter (fun r => r != serial) } })

/-- R5, R6: RESTORE ROD and SET WEAR LIMITS. -/
def Obligations.RestoreRodAndWearLimits : Prop :=
  (∀ (p : Port) (serial slot : Nat) (s : State), s.power = .running →
    exec (.restoreRod p serial slot) s = .next (
      if p ≠ .floor then settled p 3 .notPermitted [] s
      else if s.modes.mode ≠ .setup then settled p 3 .wrongMode [] s
      else if serial = 0 ∨ 255 < slot then settled p 3 .outOfRange [] s
      else if ¬ ∃ r ∈ s.rack.rods, r.serial = serial then settled p 3 .noSuch [] s
      else if serial ∉ s.rack.laidOut then settled p 3 .busy [] s
      else if (slotAt s.rack slot).occupant ≠ none then settled p 3 .occupied [] s
      else settled p 3 .ok [] { s with rack := { s.rack with
        rods := s.rack.rods.map (fun r => if r.serial = serial then { r with status := .ok } else r),
        laidOut := s.rack.laidOut.filter (fun r => r != serial),
        slots := s.rack.slots.set slot { slotAt s.rack slot with
          occupant := some serial, sensed := .unknown, discrepancy := false } } })) ∧
  ∀ (p : Port) (joints hours : Nat) (s : State), s.power = .running →
    exec (.setWearLimits p joints hours) s = .next (
      if p ≠ .floor then settled p 4 .notPermitted [] s
      else if s.modes.mode ≠ .setup then settled p 4 .wrongMode [] s
      else if ¬ (50 ≤ joints ∧ joints ≤ 5000 ∧ 100 ≤ hours ∧ hours ≤ 10000) then settled p 4 .outOfRange [] s
      else settled p 4 .ok [] { s with rack := { s.rack with jointLimit := joints, hourLimit := hours } })

/-- R11, R12: SET SLOT SENSING and RACK SENSE, over the 32 values that a frame carries; the notices of RACK SENSE in
ascending order of slot. -/
def Obligations.SlotSensingRequests : Prop :=
  (∀ (p : Port) (bay : Nat) (enables : List Nat) (s : State), s.power = .running → enables.length = 32 →
    let slots := s.rack.slots.mapIdx fun n x =>
      if 32 * bay ≤ n ∧ n < 32 * bay + 32 then
        if x.sensing = true ∧ enables.getD (n - 32 * bay) 0 = 0 then
          { x with sensing := false, sensed := .unknown, discrepancy := false }
        else { x with sensing := enables.getD (n - 32 * bay) 0 = 1 }
      else x
    exec (.setSlotSensing p bay enables) s = .next (
      if p ≠ .floor then settled p 5 .notPermitted [] s
      else if s.modes.mode ≠ .setup then settled p 5 .wrongMode [] s
      else if 7 < bay ∨ ∃ v ∈ enables, 1 < v then settled p 5 .outOfRange [] s
      else settled p 5 .ok [] { s with rack := { s.rack with slots := slots } })) ∧
  ∀ (p : Port) (bay : Nat) (presence : List Nat) (s : State), s.power = .running → presence.length = 32 →
    let slots := s.rack.slots.mapIdx fun n x =>
      if 32 * bay ≤ n ∧ n < 32 * bay + 32 ∧ x.sensing = true then
        if presence.getD (n - 32 * bay) 0 = 1 then { x with sensed := .present, discrepancy := x.occupant.isNone }
        else { x with sensed := .absent, discrepancy := x.occupant.isSome }
      else x
    let newFlags := ((List.range 32).map fun i => 32 * bay + i).filter fun n =>
      !(s.rack.slots.getD n blankSlot).discrepancy && (slots.getD n blankSlot).discrepancy
    exec (.rackSense p bay presence) s = .next (
      if p ≠ .floor then settled p 6 .notPermitted [] s
      else if 7 < bay ∨ ∃ v ∈ presence, 1 < v then settled p 6 .outOfRange [] s
      else settled p 6 .ok []
        (newFlags.foldl (fun s n => raise .rackDiscrepancy n 0 s) { s with rack := { s.rack with slots := slots } }))

/-! ### Chapter 2: the string tally -/

/-- R19, R34: SET BHA (with a depth computation) and SET MAKEUP LIMITS. -/
def Obligations.TallyConfigurationRequests : Prop :=
  (∀ (p : Port) (components : List BhaField) (s : State), s.power = .running →
    exec (.setBha p components) s = .next (
      if p ≠ .floor then settled p 16 .notPermitted [] s
      else if s.modes.mode ≠ .setup then settled p 16 .wrongMode [] s
      else if components.length = 0 ∨ 6 < components.length ∨
          (∃ c ∈ components, ¬ (c.kind ≤ 4 ∧ 100 ≤ c.length ∧ c.length ≤ 20000 ∧ 40 ≤ c.od ∧ c.od ≤ 700)) ∨
          (∃ c ∈ components.head?, c.kind ≠ 0) ∨ ∃ c ∈ components.tail, c.kind = 0 then
        settled p 16 .outOfRange [] s
      else if s.tally.stack ≠ [] ∨ s.tally.state = .unresolved then settled p 16 .busy [] s
      else settled p 16 .ok [] (depthCompute { s with tally := { s.tally with
        bha := components.map fun c =>
          { kind := (componentKindOf c.kind).getD .bit, length := c.length, od := c.od } } }))) ∧
  ∀ (p : Port) (minimum maximum : Nat) (s : State), s.power = .running →
    exec (.setMakeupLimits p minimum maximum) s = .next (
      if p ≠ .floor then settled p 28 .notPermitted [] s
      else if s.modes.mode ≠ .setup then settled p 28 .wrongMode [] s
      else if ¬ (2 ≤ minimum ∧ minimum ≤ 30 ∧ 20 ≤ maximum ∧ maximum ≤ 600 ∧ minimum < maximum) then
        settled p 28 .outOfRange [] s
      else settled p 28 .ok [] { s with tally := { s.tally with makeupMin := minimum, makeupMax := maximum } })

/-- R23: what a move request with these states comes to when a check of R23 fails, and otherwise `next`. A refusal SEQUENCE
raises TALLY_SEQUENCE with the request code and the tally state. -/
def Sys2Proof.moveOutcome (p : Port) (code : Nat) (states : List TallyState) (s next : State) : State :=
  if p ≠ .floor then settled p code .notPermitted [] s
  else if s.modes.mode = .setup ∨ s.modes.mode = .standby then settled p code .wrongMode [] s
  else if s.tally.state = .unresolved ∨ s.tally.bha = [] ∨ s.tally.state ∉ states then
    settled p code .sequence [] (raise .tallySequence code s.tally.state.code s)
  else next

/-- R23: a move refused SEQUENCE under its own rule. -/
def Sys2Proof.moveRefused (p : Port) (code : Nat) (s : State) : State :=
  settled p code .sequence [] (raise .tallySequence code s.tally.state.code s)

/-- R25, R26, R47, R173: SET SLIPS and RELEASE SLIPS, with the permits they leave, the string-top height, the depth computation and
the re-check of a pending mode request. The model's choices: the sense levels are the command's operand (log entry 4), and the depth
computation comes before the re-check (log entry 19). -/
def Obligations.SlipsRequests : Prop :=
  (∀ (p : Port) (s : State), s.power = .running →
    exec (.setSlips p) s = .next (moveOutcome p 17 [.onBlock] s
      (settled p 17 .ok [] (recheck (depthCompute { s with tally := { s.tally with
        state := .inSlipsLatched, stab := none, lastMove := some s.seconds,
        slips := { s.tally.slips with drive := true }, pump := { s.tally.pump with drive := true } } }))))) ∧
  ∀ (p : Port) (pins : SensePins) (s : State), s.power = .running →
    let sensed := { s with tally := { s.tally with
      slips := { s.tally.slips with sense := pins.slips }, pump := { s.tally.pump with sense := pins.pump } } }
    exec (.releaseSlips p pins) s = .next (moveOutcome p 18 [.inSlipsLatched] sensed
      (if s.tally.slips.drive = true ∧ pins.slips = true then
        settled p 18 .ok [] (recheck (depthCompute { sensed with
          tally := { sensed.tally with
            state := .onBlock, stab := none, lastMove := some s.seconds,
            slips := { sensed.tally.slips with drive := false }, pump := { sensed.tally.pump with drive := true } },
          depth := { s.depth with stringTop := s.depth.block.map fun h : Nat => (h : Int) } }))
      else moveRefused p 18 sensed))

/-- R36: a confirmation that finds no stab running, or an early one. -/
def Sys2Proof.confirmOutcome (p : Port) (code serial : Nat) (s next : State) : State :=
  match s.tally.stab with
  | none => settled p code .notStabbed [] s
  | some start =>
    if elapsed s.seconds start < s.tally.makeupMin then
      settled p code .early [] (raise .earlyMakeup serial (elapsed s.seconds start)
        { s with tally := { s.tally with earlyConfirms := min 65535 (s.tally.earlyConfirms + 1) } })
    else next

/-- R23, R24, R27, R28, R35, R36: UNLATCH, LATCH and STAB; that a STAB which replaces a stab leaves the early-confirm count, where R35
and R36 differ, is the model's choice (log entry 38). -/
def Obligations.UnlatchLatchAndStab : Prop :=
  (∀ (p : Port) (s : State), s.power = .running →
    exec (.unlatch p) s = .next (moveOutcome p 19 [.inSlipsLatched] s
      (settled p 19 .ok [] (recheck { s with tally := { s.tally with
        state := .inSlipsFree, stab := none, lastMove := some s.seconds,
        slips := { s.tally.slips with drive := false }, pump := { s.tally.pump with drive := false } } })))) ∧
  (∀ (p : Port) (s : State), s.power = .running →
    exec (.latch p) s = .next (moveOutcome p 20 [.inSlipsFree] s
      (confirmOutcome p 20 (s.tally.stack.getLast?.getD 0) s
        (settled p 20 .ok [] (recheck { s with tally := { s.tally with
          state := .inSlipsLatched, stab := none, lastMove := some s.seconds,
          slips := { s.tally.slips with drive := true }, pump := { s.tally.pump with drive := true } } }))))) ∧
  ∀ (p : Port) (s : State), s.power = .running →
    exec (.stab p) s = .next (moveOutcome p 23 [.rodHeldAdd, .inSlipsFree] s
      (settled p 23 .ok [] (recheck { s with tally := { s.tally with
        stab := some s.seconds, lastMove := some s.seconds,
        slips := { s.tally.slips with drive := false }, pump := { s.tally.pump with drive := false } } })))

/-- R29, R31, R36, R48: BREAK JOINT and MAKE JOINT: the rod between the stack and the handling position, the frozen
string-top height moved by its length, the depth computation, and for MAKE JOINT the joint counted (R8, R9). The model's choice (log
entry 19): the depth computation, then the joint's wear checks, then the re-check of a pending mode request. -/
def Obligations.BreakAndMakeJoint : Prop :=
  (∀ (p : Port) (s : State), s.power = .running →
    exec (.breakJoint p) s = .next (moveOutcome p 21 [.inSlipsLatched] s
      (match s.tally.stack.getLast? with
      | none => moveRefused p 21 s
      | some serial => settled p 21 .ok [] (recheck (depthCompute { s with
          tally := { s.tally with
            stack := s.tally.stack.dropLast, handling := some serial, state := .rodHeldRemove, stab := none,
            lastMove := some s.seconds, slips := { s.tally.slips with drive := false },
            pump := { s.tally.pump with drive := false } },
          depth := { s.depth with
            stringTop := s.depth.stringTop.map (· - (rodLength s.rack.rods serial : Int)) } }))))) ∧
  ∀ (p : Port) (serial : Nat) (s : State), s.power = .running →
    (s.tally.state = .rodHeldAdd → s.tally.handling = some serial) →
    exec (.makeJoint p) s = .next (moveOutcome p 24 [.rodHeldAdd] s
      (confirmOutcome p 24 serial s
        (settled p 24 .ok [] (recheck (countJoint (serial :: s.tally.stack.getLast?.toList) (depthCompute { s with
          tally := { s.tally with
            stack := s.tally.stack ++ [serial], handling := none, state := .inSlipsLatched, stab := none,
            lastMove := some s.seconds, slips := { s.tally.slips with drive := true },
            pump := { s.tally.pump with drive := true } },
          depth := { s.depth with
            stringTop := s.depth.stringTop.map (· + (rodLength s.rack.rods serial : Int)) } }))))))

/-- R14, R42: a put into a slot refused, and otherwise `next`. -/
def Sys2Proof.putOutcome (p : Port) (code slot : Nat) (s next : State) : State :=
  if 255 < slot then settled p code .outOfRange [] s
  else if (slotAt s.rack slot).occupant ≠ none then settled p code .occupied [] s
  else if (slotAt s.rack slot).sensing = true ∧ (slotAt s.rack slot).sensed = .present then
    settled p code .discrepancy [] s
  else next

/-- R13, R32, R42: the rod in the handling position racked in a slot. -/
def Sys2Proof.rackedInSlot (slot serial : Nat) (s : State) : State :=
  recheck { s with
    rack := { s.rack with slots := s.rack.slots.set slot { slotAt s.rack slot with
      occupant := some serial, sensed := .unknown, discrepancy := false } },
    tally := { s.tally with
      handling := none, state := .inSlipsFree, stab := none, lastMove := some s.seconds,
      slips := { s.tally.slips with drive := false }, pump := { s.tally.pump with drive := false } } }

/-- R15, R33, R42: the rod in the handling position laid out. -/
def Sys2Proof.laidOutAtTail (serial : Nat) (s : State) : State :=
  recheck { s with
    rack := { s.rack with
      laidOut := s.rack.laidOut ++ [serial],
      rods := s.rack.rods.map fun r => if r.serial = serial then { r with status := .rejected } else r },
    tally := { s.tally with
      handling := none, state := .inSlipsFree, stab := none, lastMove := some s.seconds,
      slips := { s.tally.slips with drive := false }, pump := { s.tally.pump with drive := false } } }

/-- R13, R14, R15, R30, R32, R33: PICK ROD, RACK ROD and LAY OUT ROD. -/
def Obligations.PickRackAndLayOut : Prop :=
  (∀ (p : Port) (slot : Nat) (s : State), s.power = .running →
    exec (.pickRod p slot) s = .next (moveOutcome p 22 [.inSlipsFree] s
      (if s.tally.stab ≠ none then moveRefused p 22 s
      else if 255 < slot then settled p 22 .outOfRange [] s
      else match (slotAt s.rack slot).occupant with
        | none => settled p 22 .empty [] s
        | some serial =>
          if (slotAt s.rack slot).sensing = true ∧ (slotAt s.rack slot).sensed = .absent then
            settled p 22 .discrepancy [] s
          else
            let picked := { s with
              rack := { s.rack with slots := s.rack.slots.set slot { slotAt s.rack slot with
                occupant := none, sensed := .unknown, discrepancy := false } },
              tally := { s.tally with
                handling := some serial, state := .rodHeldAdd, stab := none, lastMove := some s.seconds,
                slips := { s.tally.slips with drive := false }, pump := { s.tally.pump with drive := false } } }
            settled p 22 .ok [] (recheck
              (match s.rack.rods.find? fun r => r.serial == serial with
              | some r => if r.status = .worn then raise .rodWorn serial r.jointsMade picked else picked
              | none => picked))))) ∧
  (∀ (p : Port) (slot serial : Nat) (s : State), s.power = .running →
    (s.tally.state ∈ [.rodHeldAdd, .rodHeldRemove] → s.tally.handling = some serial) →
    exec (.rackRod p slot) s = .next (moveOutcome p 25 [.rodHeldAdd, .rodHeldRemove] s
      (putOutcome p 25 slot s (settled p 25 .ok [] (rackedInSlot slot serial s))))) ∧
  ∀ (p : Port) (serial : Nat) (s : State), s.power = .running →
    (s.tally.state ∈ [.rodHeldAdd, .rodHeldRemove] → s.tally.handling = some serial) →
    exec (.layOutRod p) s = .next (moveOutcome p 26 [.rodHeldAdd, .rodHeldRemove] s
      (if 32 ≤ s.rack.laidOut.length then settled p 26 .full [] s
      else settled p 26 .ok [] (laidOutAtTail serial s)))

/-- R42, R48, R173: RESOLVE ROD with each destination: 0 STRING_TOP, 1 SLOT, 2 LAID_OUT. The model's choices: another destination
byte is refused last (log entry 29), the slot byte is not read but for SLOT (log entry 39), and the depth computation comes before
the re-check (log entry 19). -/
def Obligations.ResolveRodByDestination : Prop :=
  ∀ (p : Port) (destination slot serial : Nat) (s : State), s.power = .running →
    (s.tally.state = .unresolved → s.tally.handling = some serial) →
    exec (.resolveRod p destination slot) s = .next (
      if p ≠ .floor then settled p 27 .notPermitted [] s
      else if s.modes.mode = .standby then settled p 27 .wrongMode [] s
      else if s.tally.state ≠ .unresolved then moveRefused p 27 s
      else match destination with
        | 0 => settled p 27 .ok [] (recheck (depthCompute { s with
            tally := { s.tally with
              stack := s.tally.stack ++ [serial], handling := none, state := .inSlipsLatched, stab := none,
              lastMove := some s.seconds, slips := { s.tally.slips with drive := true },
              pump := { s.tally.pump with drive := true } },
            depth := { s.depth with
              stringTop := s.depth.stringTop.map (· + (rodLength s.rack.rods serial : Int)) } }))
        | 1 => putOutcome p 27 slot s (settled p 27 .ok [] (rackedInSlot slot serial s))
        | 2 => if 32 ≤ s.rack.laidOut.length then settled p 27 .full [] s
               else settled p 27 .ok [] (laidOutAtTail serial s)
        | _ => settled p 27 .outOfRange [] s)

/-- R37, R74: the expiry of a stab and staleness, due and not due (log entry 7); the notice before the re-check is the model's choice
(log entry 19). -/
def Obligations.ExpiryAndStaleness : Prop :=
  (∀ s : State, s.power = .running →
    exec .makeupExpired s = .next (
      match s.tally.stab with
      | none => s
      | some start =>
        if s.tally.makeupMax ≤ elapsed s.seconds start then
          recheck (raise .makeupExpired
            (if s.tally.state = .rodHeldAdd then s.tally.handling.getD 0 else s.tally.stack.getLast?.getD 0)
            s.tally.makeupMax (drivePermits { s with tally := { s.tally with stab := none } }))
        else s)) ∧
  ∀ s : State, s.power = .running →
    exec .circStale s = .next (
      match s.circ.reportSecond with
      | none => s
      | some second =>
        if s.circ.status ≠ .stale ∧ 10 ≤ elapsed s.seconds second then
          recheck (raise .circStale 0 second { s with circ := { s.circ with
            status := .stale, lossStreak := 0, gainStreak := 0, balancedStreak := 0 } })
        else s)

/-- R40: one comparison of a line, driven and read at these levels: its mismatch count and fault flag, and whether it raises
PERMIT_FAULT. -/
def Sys2Proof.comparedLine (x : PermitLine) (sense : Bool) : PermitLine × Bool :=
  if sense = x.drive then ({ x with sense := sense, mismatch := 0, fault := false }, false)
  else if x.mismatch = 0 then ({ x with sense := sense, mismatch := 1 }, false)
  else if x.mismatch = 1 then ({ x with sense := sense, mismatch := 2, fault := true }, !x.fault)
  else ({ x with sense := sense }, false)

/-- R40: the readback of a device second leaves each line as its comparison gives, raises PERMIT_FAULT for the lines it faults,
SLIPS first, and re-checks a pending mode request when a fault flag changed; PERMIT_FAULT, the second comparison of one line,
faults it (log entries 7, 8, 9). -/
def Obligations.PermitReadbackAndFault : Prop :=
  (∀ (pins : SensePins) (s : State),
    let slips := comparedLine s.tally.slips pins.slips
    let pump := comparedLine s.tally.pump pins.pump
    let compared := { s with tally := { s.tally with slips := slips.1, pump := pump.1 } }
    let noted := raiseIf slips.2 .permitFault 1 s.tally.slips.drive.toNat compared
    let noted := raiseIf pump.2 .permitFault 2 s.tally.pump.drive.toNat noted
    permitReadback pins s =
      if slips.1.fault = s.tally.slips.fault ∧ pump.1.fault = s.tally.pump.fault then noted else recheck noted) ∧
  (∀ (sense : Bool) (s : State), s.power = .running →
    exec (.permitFault .slips sense) s = .next (
      if sense ≠ s.tally.slips.drive ∧ 1 ≤ s.tally.slips.mismatch ∧ s.tally.slips.fault = false then
        recheck (raise .permitFault 1 s.tally.slips.drive.toNat { s with tally := { s.tally with
          slips := { s.tally.slips with sense := sense, mismatch := 2, fault := true } } })
      else s)) ∧
  ∀ (sense : Bool) (s : State), s.power = .running →
    exec (.permitFault .pump sense) s = .next (
      if sense ≠ s.tally.pump.drive ∧ 1 ≤ s.tally.pump.mismatch ∧ s.tally.pump.fault = false then
        recheck (raise .permitFault 2 s.tally.pump.drive.toNat { s with tally := { s.tally with
          pump := { s.tally.pump with sense := sense, mismatch := 2, fault := true } } })
      else s)

/-! ### Chapter 3: depth and rig activity -/

/-- R45, R47, R49, R59: BLOCK (with a depth computation), DOWN START and DOWN END. -/
def Obligations.BlockAndDownRequests : Prop :=
  (∀ (p : Port) (height rotation : Nat) (s : State), s.power = .running →
    exec (.block p height rotation) s = .next (
      if p ≠ .floor then settled p 32 .notPermitted [] s
      else if 40000 < height ∨ 1 < rotation then settled p 32 .outOfRange [] s
      else settled p 32 .ok [] (depthCompute { s with depth := { s.depth with
        block := some height, rotation := rotation = 1,
        stringTop := if s.depth.stringTop = none ∨ s.tally.state = .onBlock then some (height : Int)
                     else s.depth.stringTop } }))) ∧
  (∀ (p : Port) (s : State), s.power = .running →
    exec (.downStart p) s = .next (
      if p = .mud then settled p 33 .notPermitted [] s
      else settled p 33 .ok [] { s with depth := { s.depth with down := true } })) ∧
  ∀ (p : Port) (s : State), s.power = .running →
    exec (.downEnd p) s = .next (
      if p = .mud then settled p 34 .notPermitted [] s
      else settled p 34 .ok [] { s with depth := { s.depth with down := false } })

/-- R20: S, written out. -/
def Sys2Proof.lengthOfString (s : State) : Nat :=
  (s.tally.bha.map Component.length).sum +
    (s.tally.stack.map fun serial =>
      match s.rack.rods.find? fun r => r.serial == serial with
      | some r => r.length
      | none => 0).sum

/-- R53, R54: the sum of the codes of the advance conditions that do not hold. -/
def Sys2Proof.failingConditions (s : State) : Nat :=
  (if s.modes.mode = .run ∨ s.modes.mode = .watch then 0 else 1) + (if s.depth.rotation = true then 0 else 2) +
    (if s.circ.status = .on then 0 else 4)

/-- R51, R53, R54, R55, R56: the depth computation, case by case (a raw bit depth below 0 ends an excursion: log entry 20). -/
def Obligations.DepthComputationByRule : Prop :=
  (∀ s : State, s.depth.stringTop = none → depthCompute s = s) ∧
  ∀ (top raw : Int) (s : State), s.depth.stringTop = some top → raw = (lengthOfString s : Int) - top →
    (raw < 0 → depthCompute s = { s with depth := { s.depth with
      raw := some raw, bit := some 0, aboveTable := true, disagree := s.depth.disagree && !s.job.isOpen,
      limit := s.depth.limit && !s.job.isOpen } }) ∧
    (0 ≤ raw → s.job.isOpen = false → depthCompute s = { s with depth := { s.depth with
      raw := some raw, bit := some raw.toNat, aboveTable := false } }) ∧
    ∀ hole : Nat, 0 ≤ raw → s.job.isOpen = true → s.depth.hole = some hole →
      (raw ≤ hole → depthCompute s = { s with depth := { s.depth with
        raw := some raw, bit := some raw.toNat, aboveTable := false, disagree := false, limit := false } }) ∧
      (hole < raw → failingConditions s ≠ 0 →
        let raising := decide ((hole : Int) + 500 < raw) && !s.depth.disagree
        let clamped := { s with depth := { s.depth with
          raw := some raw, bit := some hole, aboveTable := false, disagree := s.depth.disagree || raising,
          limit := s.depth.limit && decide (1600000 < raw) } }
        depthCompute s =
          if raising = true then raise .depthDisagree (failingConditions s) raw.toNat clamped else clamped) ∧
      (hole < raw → failingConditions s = 0 → hole < 1600000 →
        let reached := min raw.toNat 1600000
        let capped := decide (1600000 < raw)
        let handed := handIncrement hole reached { s with depth := { s.depth with
          raw := some raw, bit := some reached, hole := some reached, aboveTable := false,
          disagree := s.depth.disagree && capped, limit := s.depth.limit && capped } }
        depthCompute s =
          if capped = true ∧ s.depth.limit = false then
            raise .depthLimit 0 raw.toNat { handed with depth := { handed.depth with limit := true } }
          else handed) ∧
      (hole < raw → failingConditions s = 0 → hole = 1600000 →
        let clamped := { s with depth := { s.depth with
          raw := some raw, bit := some hole, aboveTable := false } }
        depthCompute s =
          if s.depth.limit = false then
            raise .depthLimit 0 raw.toNat { clamped with depth := { clamped.depth with limit := true } }
          else clamped)

/-- R56, R134: a new-hole increment (a, b] goes to the lag unit, then the log (over the segment ends it passes), then the metering
unit under the effective band that the OPEN interval had when it was handed over; that order, and so the order of the notices of one
increment, is the model's choice (log entry 33). R108: the segment ends in it are the depths of
(a, b] at whole segments from the start depth; the log adds the length up to each end to the drilled mm of the OPEN interval,
completes the segment that ends there, and goes on from it in the log as that leaves it; the last piece is added up to b. -/
def Obligations.IncrementReachesThreeBlocks : Prop :=
  (∀ start a b : Nat, start ≤ a →
    segmentEnds start a b = (List.range (b + 1)).filter fun e => a < e ∧ (e - start) % 250 = 0) ∧
  (∀ (a b : Nat) (s : State),
    logIncrement a b [] s = { s with log := { s.log with
      intervals := s.log.intervals.modify (s.log.intervals.length - 1) fun x => { x with drilledMm := x.drilledMm + (b - a) } } }) ∧
  (∀ (a b e : Nat) (ends : List Nat) (s : State),
    logIncrement a b (e :: ends) s = logIncrement e b ends (completeSegment e { s with log := { s.log with
      intervals :=
        s.log.intervals.modify (s.log.intervals.length - 1) fun x => { x with drilledMm := x.drilledMm + (e - a) } } })) ∧
  ∀ (a b : Nat) (s t : State), t = handIncrement a b s →
    let band := (openInterval s.log).band.getD s.meter.card.defaultBand
    let ends := segmentEnds (s.job.start.getD 0) a b
    t = accrueFootage band a b (logIncrement a b ends (issueSamples a b s)) ∧
    t.meter = (accrueFootage band a b s).meter ∧
    t.lag = (issueSamples a b s).lag ∧
    t.log.intervals = (logIncrement a b ends s).log.intervals ∧
    t.log.detector = (logIncrement a b ends s).log.detector ∧
    t.log.lastSegment = (logIncrement a b ends s).log.lastSegment ∧
    t.log.segmentSeconds = (logIncrement a b ends s).log.segmentSeconds ∧
    t.log.samples = (issueSamples a b s).log.samples ∧
    t.ports = (logIncrement a b ends (issueSamples a b s)).ports ∧
    t.tally = s.tally ∧ t.depth = s.depth ∧ t.circ = s.circ ∧ t.rack = s.rack ∧ t.modes = s.modes ∧ t.job = s.job ∧
    t.seconds = s.seconds ∧ t.power = s.power ∧ t.levels = s.levels ∧ t.storeBlank = s.storeBlank ∧ t.pending = s.pending

/-- R60: the activity of a second, by the table, from the state of that second. -/
def Sys2Proof.activityByTable (second : Nat) (circulating : Bool) (s : State) : Activity :=
  if s.depth.down = true then .down
  else if s.tally.state ≠ .onBlock ∨ (∃ m ∈ s.tally.lastMove, elapsed second m < 180) then .tripping
  else if s.depth.rotation = true ∧ circulating = true ∧ s.job.isOpen = true ∧
      (∃ z ∈ s.depth.bit, ∃ h ∈ s.depth.hole, h ≤ z + 300) then .drilling
  else if circulating = true then .circulating
  else .idle

/-- R37: a stab that has run the maximum make-up time expired; the state unchanged where none has. -/
def Sys2Proof.stabExpired (s : State) : State :=
  match s.tally.stab with
  | none => s
  | some start =>
    if s.tally.makeupMax ≤ elapsed s.seconds start then
      recheck (raise .makeupExpired
        (if s.tally.state = .rodHeldAdd then s.tally.handling.getD 0 else s.tally.stack.getLast?.getD 0)
        s.tally.makeupMax (drivePermits { s with tally := { s.tally with stab := none } }))
    else s

/-- R74: a circulation status that has become STALE; the state unchanged where it has not. -/
def Sys2Proof.circulationStale (s : State) : State :=
  match s.circ.reportSecond with
  | none => s
  | some second =>
    if s.circ.status ≠ .stale ∧ 10 ≤ elapsed s.seconds second then
      recheck (raise .circStale 0 second { s with circ := { s.circ with
        status := .stale, lossStreak := 0, gainStreak := 0, balancedStreak := 0 } })
    else s

/-- R109: a DRILLING second added to the segment seconds and to the OPEN interval. -/
def Sys2Proof.drilledOneSecond (s : State) : State :=
  { s with log := { s.log with
    intervals := s.log.intervals.modify (s.log.intervals.length - 1) fun x =>
      { x with drilledSeconds := min 4294967295 (x.drilledSeconds + 1) },
    segmentSeconds := min 4294967295 (s.log.segmentSeconds + 1) } }

/-- R135, R193: the job clock advanced by one second, which is credited. -/
def Sys2Proof.jobSecond (s : State) : State :=
  if s.job.isOpen = true ∧ s.job.clock < 4294967295 then creditSecond { s with job := { s.job with clock := s.job.clock + 1 } }
  else s

/-- R58, R60, R109, R193, R197: a device second advances the counter (its greatest value apart: log entry 10) and the job clock
while a job is open, derives the activity by the table, adds a DRILLING second to the OPEN interval and to the segment seconds, and
leaves the rest of the depth unit and the job record alone. Last clause: its pieces of work, in the model's order (log entry 5): the
expiries that are overdue (log entry 6), the counter, the wear counts (Obligations.RodsCountedAndWorn), the permit readback of R40
(Obligations.PermitReadbackAndFault), the activity, the log, and the job clock (Obligations.DeviceSecondCreditsOneLine). -/
def Obligations.DeviceSecondClocksAndActivity : Prop :=
  (∀ (pins : SensePins) (s : State), s.power = .running → ∃ t : State, exec (.deviceSecond pins) s = .next t ∧
    (s.seconds < 4294967295 → t.seconds = s.seconds + 1) ∧
    t.job = { s.job with clock := if s.job.isOpen = true ∧ s.job.clock < 4294967295 then s.job.clock + 1
                                  else s.job.clock } ∧
    t.depth = { s.depth with activity := activityByTable t.seconds (t.circ.status == .on) s } ∧
    t.log.intervals =
      (if s.job.isOpen = true ∧ t.depth.activity = .drilling then
        s.log.intervals.modify (s.log.intervals.length - 1) fun x =>
          { x with drilledSeconds := min 4294967295 (x.drilledSeconds + 1) }
      else s.log.intervals) ∧
    t.power = s.power ∧ t.pending = s.pending ∧ t.levels = s.levels ∧ t.storeBlank = s.storeBlank) ∧
  ∀ (pins : SensePins) (s : State), s.power = .running →
    exec (.deviceSecond pins) s = .next (
      let settledFirst := circulationStale (stabExpired s)
      let counted := { settledFirst with
        seconds := if s.seconds < 4294967295 then s.seconds + 1 else Config.deviceSecondsAfterMax.toNat }
      let compared := permitReadback pins (wearSecond counted)
      let derived := { compared with depth := { compared.depth with
        activity := activityByTable compared.seconds (compared.circ.status == .on) compared } }
      let logged := if derived.job.isOpen = true ∧ derived.depth.activity = .drilling then drilledOneSecond derived else derived
      jobSecond logged)

/-- R135, R146: the second at which the job clock advances is credited to one line of the open ticket, chosen by the mode held, and
to the job totals by the activity derived; without an advance nothing is credited (log entry 27). The mode is the one held after
that second's expiries and readback, which is the model's choice (log entry 5). Crediting a second changes the metering unit alone:
the line and the total (with no ticket open, which no run reaches with a job open, the total only: log entry 26). -/
def Obligations.DeviceSecondCreditsOneLine : Prop :=
  (∀ s : State,
    let key : LineKey :=
      match s.modes.mode with
      | .run => .time s.depth.activity
      | .watch => .unwitnessed
      | .setup => .setup
      | .standby => .time .idle
    let one := fun l : Line => { l with quantity := ((min 4294967295 (l.quantity.toNat + 1) : Nat) : Int) }
    let n := s.depth.activity.code
    let seconds := s.meter.totals.seconds.set n (min 4294967295 (s.meter.totals.seconds.getD n 0 + 1))
    creditSecond s = { s with meter := { s.meter with
      openTicket := s.meter.openTicket.map fun ticket => { ticket with lines := updateLine key one ticket.lines },
      totals := { s.meter.totals with seconds := seconds } } }) ∧
  ∀ (pins : SensePins) (s : State), s.power = .running → ∃ t : State, exec (.deviceSecond pins) s = .next t ∧
    (¬ (s.job.isOpen = true ∧ s.job.clock < 4294967295) → t.meter = s.meter) ∧
    ∀ ticket : Ticket, s.job.isOpen = true → s.job.clock < 4294967295 → s.meter.openTicket = some ticket →
      let key : LineKey :=
        match t.modes.mode with
        | .run => .time t.depth.activity
        | .watch => .unwitnessed
        | .setup => .setup
        | .standby => .time .idle
      let one := fun l : Line => { l with quantity := ((min 4294967295 (l.quantity.toNat + 1) : Nat) : Int) }
      let n := t.depth.activity.code
      let seconds := s.meter.totals.seconds.set n (min 4294967295 (s.meter.totals.seconds.getD n 0 + 1))
      t.meter = { s.meter with
        openTicket := some { ticket with lines := updateLine key one ticket.lines },
        totals := { s.meter.totals with seconds := seconds } }

/-- R7, R9: a device second with rotation on counts the rods of the stack and wears out those that reach a limit; it changes no
other field of any rod, and with rotation off none; its wear counts raise ROD_WORN for each rod worn out, from the bottom rod upward,
and change nothing else. R8, R9: the joint of MAKE JOINT is counted on each rod it joins, on the picked rod alone where the stack was
empty, and wears out a rod that reaches a limit, with ROD_WORN for the picked rod first. -/
def Obligations.RodsCountedAndWorn : Prop :=
  (∀ (pins : SensePins) (s : State), s.power = .running → (s.rack.rods.map Rod.serial).Pairwise (· < ·) →
    ∃ t : State, exec (.deviceSecond pins) s = .next t ∧
      t.rack = { s.rack with rods := s.rack.rods.map fun r =>
        if s.depth.rotation = true ∧ r.serial ∈ s.tally.stack then
          let counted := { r with rotatingSeconds := min 4294967295 (r.rotatingSeconds + 1) }
          if r.status = .ok ∧
              (s.rack.jointLimit ≤ r.jointsMade ∨ s.rack.hourLimit * 3600 ≤ counted.rotatingSeconds) then
            { counted with status := .worn }
          else counted
        else r }) ∧
  (∀ s : State, s.depth.rotation = false → wearSecond s = s) ∧
  (∀ s : State, s.depth.rotation = true → (s.rack.rods.map Rod.serial).Pairwise (· < ·) → s.tally.stack.Nodup →
    let counted := fun r : Rod => { r with rotatingSeconds := min 4294967295 (r.rotatingSeconds + 1) }
    let wears := fun r : Rod => r.status = .ok ∧
      (s.rack.jointLimit ≤ r.jointsMade ∨ s.rack.hourLimit * 3600 ≤ (counted r).rotatingSeconds)
    let after := fun r : Rod => if wears r then { counted r with status := .worn } else counted r
    let upward := s.tally.stack.filterMap fun serial => s.rack.rods.find? fun r => r.serial == serial
    let noted := (upward.filter fun r => wears r).foldl (fun t r => raise .rodWorn r.serial r.jointsMade t) s
    wearSecond s = { noted with rack := { s.rack with
      rods := s.rack.rods.map fun r => if r.serial ∈ s.tally.stack then after r else r } }) ∧
  (∀ (picked : Nat) (r : Rod) (s : State), (s.rack.rods.map Rod.serial).Pairwise (· < ·) → r ∈ s.rack.rods →
    r.serial = picked →
    let counted := fun x : Rod => { x with jointsMade := min 65535 (x.jointsMade + 1) }
    let wears := fun x : Rod => x.status = .ok ∧
      (s.rack.jointLimit ≤ (counted x).jointsMade ∨ s.rack.hourLimit * 3600 ≤ x.rotatingSeconds)
    let after := fun x : Rod => if wears x then { counted x with status := .worn } else counted x
    let noted := if wears r then raise .rodWorn picked (counted r).jointsMade s else s
    countJoint [picked] s = { noted with rack := { s.rack with
      rods := s.rack.rods.map fun x => if x.serial = picked then after x else x } }) ∧
  ∀ (picked below : Nat) (r b : Rod) (s : State), (s.rack.rods.map Rod.serial).Pairwise (· < ·) → picked ≠ below →
    r ∈ s.rack.rods → r.serial = picked → b ∈ s.rack.rods → b.serial = below →
    let counted := fun x : Rod => { x with jointsMade := min 65535 (x.jointsMade + 1) }
    let wears := fun x : Rod => x.status = .ok ∧
      (s.rack.jointLimit ≤ (counted x).jointsMade ∨ s.rack.hourLimit * 3600 ≤ x.rotatingSeconds)
    let after := fun x : Rod => if wears x then { counted x with status := .worn } else counted x
    let first := if wears r then raise .rodWorn picked (counted r).jointsMade s else s
    let both := if wears b then raise .rodWorn below (counted b).jointsMade first else first
    countJoint [picked, below] s = { both with rack := { s.rack with
      rods := s.rack.rods.map fun x => if x.serial = picked ∨ x.serial = below then after x else x } }

/-! ### Chapters 4 and 5: circulation and lag -/

/-- R63, R64, R87: SET PUMP, SET CIRCULATION LIMITS and SET CASING PROGRAM. -/
def Obligations.CirculationAndCasingConfiguration : Prop :=
  (∀ (p : Port) (pump displacement efficiency maxRate : Nat) (s : State), s.power = .running →
    let x : Pump := { displacement := displacement, efficiency := efficiency, maxRate := maxRate }
    exec (.setPump p pump displacement efficiency maxRate) s = .next (
      if p ≠ .mud then settled p 40 .notPermitted [] s
      else if s.modes.mode ≠ .setup then settled p 40 .wrongMode [] s
      else if ¬ ((pump = 1 ∨ pump = 2) ∧ (displacement = 0 ∨ 1000 ≤ displacement ∧ displacement ≤ 40000) ∧
          500 ≤ efficiency ∧ efficiency ≤ 1000 ∧ 10 ≤ maxRate ∧ maxRate ≤ 200) then settled p 40 .outOfRange [] s
      else settled p 40 .ok [] { s with circ :=
        if pump = 1 then { s.circ with pump1 := x } else { s.circ with pump2 := x } })) ∧
  (∀ (p : Port) (loss gain flowOutMax pitStep : Nat) (s : State), s.power = .running →
    exec (.setCirculationLimits p loss gain flowOutMax pitStep) s = .next (
      if p ≠ .mud then settled p 41 .notPermitted [] s
      else if s.modes.mode ≠ .setup then settled p 41 .wrongMode [] s
      else if ¬ (10 ≤ loss ∧ loss ≤ 1000 ∧ 10 ≤ gain ∧ gain ≤ 1000 ∧ 100 ≤ flowOutMax ∧ flowOutMax ≤ 6000 ∧
          10 ≤ pitStep ∧ pitStep ≤ 10000) then settled p 41 .outOfRange [] s
      else settled p 41 .ok [] { s with circ := { s.circ with
        lossThreshold := loss, gainThreshold := gain, flowOutMax := flowOutMax, pitStep := pitStep } })) ∧
  ∀ (p : Port) (sections : List SectionField) (s : State), s.power = .running →
    exec (.setCasingProgram p sections) s = .next (
      if p ≠ .record then settled p 48 .notPermitted [] s
      else if s.modes.mode ≠ .setup then settled p 48 .wrongMode [] s
      else if sections.length = 0 ∨ 6 < sections.length ∨
          (∃ c ∈ sections, ¬ (1 ≤ c.base ∧ c.base ≤ 1600000 ∧ 50 ≤ c.bore ∧ c.bore ≤ 700 ∧ c.kind ≤ 1)) ∨
          ¬ (sections.map SectionField.base).Pairwise (· < ·) then settled p 48 .outOfRange [] s
      else settled p 48 .ok [] { s with lag := { s.lag with
        program := sections.map fun c =>
          { base := c.base, bore := c.bore, kind := if c.kind = 0 then .cased else .openHole },
        belowProgram := false } })

/-- R65: the elapsed time of a report. -/
def Sys2Proof.reportSeconds (s : State) : Nat :=
  match s.circ.reportSecond with
  | none => 1
  | some second => max 1 (elapsed s.seconds second)

/-- R69, R70, R71: a channel after one reading. -/
def Sys2Proof.channelAfter (plausible : Bool) (value : Nat) (x : Channel) : Channel :=
  if x.state = .rejected then
    if plausible = false then { x with recovery := 0 }
    else if x.recovery + 1 < 128 then { x with recovery := x.recovery + 1 }
    else { x with counter := 0, state := .ok, recovery := 0, last := some value }
  else
    let counter := if plausible = true then x.counter - 1 else min 256 (x.counter + 8)
    let last := if plausible = true then some value else x.last
    if counter < 96 then { x with counter := counter, state := .ok, last := last }
    else if counter < 256 then { x with counter := counter, state := .suspect, last := last }
    else { x with counter := counter, state := .rejected, recovery := 0 }

/-- R66, stage 1: the four channels judged by their own tests, the PIT reference set, and their notices in channel order. -/
def Sys2Proof.stageChannels (p1 p2 flowOut pit e : Nat) (s : State) : State :=
  let strokesOk := fun (x : Pump) (strokes : Nat) => x.displacement = 0 ∨ strokes ≤ x.maxRate * e / 60 + 1
  let pitOk := ∀ r ∈ s.circ.pit.reference, pit ≤ r + s.circ.pitStep ∧ r ≤ pit + s.circ.pitStep
  let c1 := channelAfter (decide (strokesOk s.circ.pump1 p1)) (p1 * 1000 / e) s.circ.p1
  let c2 := channelAfter (decide (strokesOk s.circ.pump2 p2)) (p2 * 1000 / e) s.circ.p2
  let c3 := channelAfter (decide (flowOut ≤ s.circ.flowOutMax)) flowOut s.circ.flowOut
  let c4 := channelAfter (decide pitOk) pit s.circ.pit
  let judged := { s with circ := { s.circ with
    p1 := c1, p2 := c2, flowOut := c3, pit := { c4 with reference := if c4.state = .rejected then some pit else c4.last } } }
  channelNotice 4 s.circ.pit c4 (channelNotice 3 s.circ.flowOut c3
    (channelNotice 2 s.circ.p2 c2 (channelNotice 1 s.circ.p1 c1 judged)))

/-- R66, stage 2: the report volume, added to V_p while a job is open, and flow-in. -/
def Sys2Proof.stageVolume (p1 p2 e : Nat) (s : State) : State :=
  let used := fun (x : Channel) (strokes : Nat) => if x.state = .rejected then x.last.getD 0 * e / 1000 else strokes
  let stroke := fun x : Pump => x.displacement * x.efficiency / 1000
  let volume := used s.circ.p1 p1 * stroke s.circ.pump1 + used s.circ.p2 p2 * stroke s.circ.pump2
  { s with circ := { s.circ with
    pumped := if s.job.isOpen = true then volume64 (s.circ.pumped + volume) else s.circ.pumped,
    flowIn := volume * 60 / (e * 1000), lastE := some e, lastVolume := some volume } }

/-- R66, stage 3: the circulation status, a change of which re-checks a pending mode request (R73; log entry 30). -/
def Sys2Proof.stageStatus (s : State) : State :=
  let status : CircStatus := if 0 < s.circ.flowIn then .on else .off
  if s.circ.status = status then s else recheck { s with circ := { s.circ with status := status } }

/-- R71: the value used of FLOW_OUT or PIT. -/
def Sys2Proof.readingUsed (x : Channel) (value : Nat) : Nat := if x.state = .rejected then x.last.getD value else value

/-- R66, stage 4: the balance, with the flow-out used, the last d (log entry 22) and the previous pit value used. -/
def Sys2Proof.stageBalance (d : Option Int) (used : Option Int) (pit : Nat) (s : State) : State :=
  updateAlarms { s with circ := { moveStreaks d s.circ with
    flowOutUsed := used, lastD := d.or s.circ.lastD, previousPit := some (readingUsed s.circ.pit pit) } }

/-- R66: what a report that is taken leaves, stage by stage. -/
def Sys2Proof.reportStages (p1 p2 flowOut pit : Nat) (s : State) : State :=
  let e := reportSeconds s
  let judged := stageChannels p1 p2 flowOut pit e { s with circ := { s.circ with reportSecond := some s.seconds } }
  let counted := stageStatus (stageVolume p1 p2 e judged)
  let used := flowOutChosen counted.circ flowOut pit e
  let d := used.map fun out => (counted.circ.flowIn : Int) - out
  let balanced := stageBalance d used pit counted
  let told := tellStrata d e (!counted.circ.gain && balanced.circ.gain) balanced
  lagHandOff (readingUsed told.circ.flowOut flowOut) told

/-- R65, R71, R72, R73: a CIRCULATION report, refused and taken: the report second, e, the report volume from the strokes used of the
channels as the report leaves them, V_p, flow-in and the status. R66, R81: a report taken is its six stages in order, and then its
reply and the wake events it contains, CIRCULATION first (counters of R67's range, as in Obligations.CirculationJudgesChannels). The
model's choices: a change of the status re-checks a pending mode request at its stage, before the balance (log entry 30); the last d
stands while the balance is suspended (log entry 22); a V_p beyond 64 bits is a free value (log entry 11). -/
def Obligations.CirculationReportVolume : Prop :=
  (∀ (p : Port) (p1 p2 flowOut pit : Nat) (s : State), s.power = .running → p ≠ .mud →
    exec (.circulation p p1 p2 flowOut pit) s = .next (settled p 42 .notPermitted [] s)) ∧
  (∀ (p1 p2 flowOut pit : Nat) (s : State), s.power = .running → 6000 < flowOut ∨ 60000 < pit →
    exec (.circulation .mud p1 p2 flowOut pit) s = .next (settled .mud 42 .outOfRange [] s)) ∧
  (∀ (p1 p2 flowOut pit : Nat) (s : State), s.power = .running → flowOut ≤ 6000 → pit ≤ 60000 →
    (∀ x ∈ [s.circ.p1, s.circ.p2, s.circ.flowOut, s.circ.pit], x.counter ≤ 256) →
    let t := reportStages p1 p2 flowOut pit s
    let events := (if 0 < p1 ∨ 0 < p2 then [WakeSource.circulation] else []) ++
      (if t.circ.gainThreshold < flowOut ∧ t.circ.flowIn = 0 then [WakeSource.artesian] else [])
    exec (.circulation .mud p1 p2 flowOut pit) s =
      .next (events.foldl (fun u w => wakeEvent w u) (placeReply .mud 42 .ok [] t))) ∧
  ∀ (p1 p2 flowOut pit : Nat) (s : State), s.power = .running → flowOut ≤ 6000 → pit ≤ 60000 →
    ∃ t : State, exec (.circulation .mud p1 p2 flowOut pit) s = .next t ∧
      let e := reportSeconds s
      let used := fun (x : Channel) (strokes : Nat) => if x.state = .rejected then x.last.getD 0 * e / 1000 else strokes
      let stroke := fun x : Pump => x.displacement * x.efficiency / 1000
      let volume := used t.circ.p1 p1 * stroke s.circ.pump1 + used t.circ.p2 p2 * stroke s.circ.pump2
      t.circ.reportSecond = some s.seconds ∧ t.circ.lastE = some e ∧ t.circ.lastVolume = some volume ∧
      t.circ.flowIn = volume * 60 / (e * 1000) ∧ t.circ.status = (if 0 < t.circ.flowIn then .on else .off) ∧
      t.circ.pumped = (if s.job.isOpen = true then volume64 (s.circ.pumped + volume) else s.circ.pumped) ∧
      t.circ.pump1 = s.circ.pump1 ∧ t.circ.pump2 = s.circ.pump2 ∧ t.seconds = s.seconds ∧ t.depth = s.depth ∧
      t.rack = s.rack ∧ t.meter = s.meter ∧ t.job = s.job

/-- R68 to R71: a report taken leaves each channel as one reading does, plausible by its own test, and PIT with its new reference
(counters of R67's range: a plausible reading never makes a trusted channel REJECTED); the notice of one channel's reading. -/
def Obligations.CirculationJudgesChannels : Prop :=
  (∀ (p1 p2 flowOut pit : Nat) (s : State), s.power = .running → flowOut ≤ 6000 → pit ≤ 60000 →
    (∀ x ∈ [s.circ.p1, s.circ.p2, s.circ.flowOut, s.circ.pit], x.counter ≤ 256) →
    ∃ t : State, exec (.circulation .mud p1 p2 flowOut pit) s = .next t ∧
      let e := reportSeconds s
      let strokesOk := fun (x : Pump) (strokes : Nat) => x.displacement = 0 ∨ strokes ≤ x.maxRate * e / 60 + 1
      let pitOk := ∀ r ∈ s.circ.pit.reference, pit ≤ r + s.circ.pitStep ∧ r ≤ pit + s.circ.pitStep
      let pitAfter := channelAfter (decide pitOk) pit s.circ.pit
      t.circ.p1 = channelAfter (decide (strokesOk s.circ.pump1 p1)) (p1 * 1000 / e) s.circ.p1 ∧
      t.circ.p2 = channelAfter (decide (strokesOk s.circ.pump2 p2)) (p2 * 1000 / e) s.circ.p2 ∧
      t.circ.flowOut = channelAfter (decide (flowOut ≤ s.circ.flowOutMax)) flowOut s.circ.flowOut ∧
      t.circ.pit = { pitAfter with reference := if pitAfter.state = .rejected then some pit else pitAfter.last }) ∧
  ∀ (n : Nat) (before after : Channel) (s : State),
    (before.state = .rejected → after.state = .rejected → channelNotice n before after s = s) ∧
    (before.state = .rejected → after.state ≠ .rejected →
      channelNotice n before after s = raise .channelRecovered n 128 s) ∧
    (before.state ≠ .rejected → after.state = .rejected →
      channelNotice n before after s = raise .channelRejected n 256 s) ∧
    (before.state = .ok → after.state = .suspect →
      channelNotice n before after s = raise .channelSuspect n after.counter s) ∧
    (before.state ≠ .rejected → after.state = .ok → channelNotice n before after s = s) ∧
    (before.state = .suspect → after.state = .suspect → channelNotice n before after s = s)

/-- R75, R76, R77: the flow-out used, the streaks and the alarms of one report. -/
def Obligations.BalanceStreaksAndAlarms : Prop :=
  (∀ (c : Circ) (flowOut pit e : Nat),
    (c.flowOut.state ≠ .rejected → flowOutChosen c flowOut pit e = some (flowOut : Int)) ∧
    (c.flowOut.state = .rejected → c.pit.state = .rejected → flowOutChosen c flowOut pit e = none) ∧
    (c.flowOut.state = .rejected → c.pit.state ≠ .rejected →
      flowOutChosen c flowOut pit e =
        some ((c.flowIn : Int) + (((pit : Int) - ((c.previousPit.getD pit : Nat) : Int)) * 60).fdiv e))) ∧
  (∀ c : Circ, moveStreaks none c = { c with lossStreak := 0, gainStreak := 0, balancedStreak := 0 }) ∧
  (∀ (d : Int) (c : Circ),
    moveStreaks (some d) c =
      if (c.lossThreshold : Int) < d then
        { c with lossStreak := min 255 (c.lossStreak + 1), gainStreak := 0, balancedStreak := 0 }
      else if (c.gainThreshold : Int) < -d then
        { c with lossStreak := 0, gainStreak := min 255 (c.gainStreak + 1), balancedStreak := 0 }
      else { c with lossStreak := 0, gainStreak := 0, balancedStreak := min 255 (c.balancedStreak + 1) }) ∧
  ∀ s : State,
    let z := bitDepthGiven s
    (s.circ.lossStreak = 16 → s.circ.loss = false →
      updateAlarms s =
        (let s := if s.circ.gain = true then raise .gain 0 z { s with circ := { s.circ with gain := false } } else s
         raise .loss 1 z { s with circ := { s.circ with loss := true } })) ∧
    (s.circ.lossStreak = 0 → s.circ.gainStreak = 16 → s.circ.gain = false →
      updateAlarms s =
        (let s := if s.circ.loss = true then raise .loss 0 z { s with circ := { s.circ with loss := false } } else s
         raise .gain 1 z { s with circ := { s.circ with gain := true } })) ∧
    (s.circ.lossStreak = 0 → s.circ.gainStreak = 0 → s.circ.balancedStreak = 16 →
      (s.circ.loss = true → s.circ.gain = false →
        updateAlarms s = raise .loss 0 z { s with circ := { s.circ with loss := false } }) ∧
      (s.circ.loss = false → s.circ.gain = true →
        updateAlarms s = raise .gain 0 z { s with circ := { s.circ with gain := false } }) ∧
      (s.circ.loss = false → s.circ.gain = false → updateAlarms s = s)) ∧
    (s.circ.lossStreak ≠ 16 → s.circ.gainStreak ≠ 16 → s.circ.balancedStreak ≠ 16 → updateAlarms s = s) ∧
    (s.circ.lossStreak = 16 → s.circ.loss = true → s.circ.gainStreak = 0 → s.circ.balancedStreak = 0 →
      updateAlarms s = s) ∧
    (s.circ.gainStreak = 16 → s.circ.gain = true → s.circ.lossStreak = 0 → s.circ.balancedStreak = 0 →
      updateAlarms s = s)

/-- R78, R79, R80, R95, R96, R122, R124: what a report sends to the strata log, by the difference d that it formed and whether it has
just set GAIN, and what it hands to the lag unit before the release of arrivals. -/
def Obligations.ReportTellsStrataAndLag : Prop :=
  (∀ (d : Option Int) (e : Nat) (gainSet : Bool) (s : State), s.job.isOpen = false → tellStrata d e gainSet s = s) ∧
  (∀ (d : Option Int) (e : Nat) (x : Interval) (s : State), s.job.isOpen = true →
    s.log.intervals[indexAt s.log.intervals (bitDepthGiven s)]? = some x → x.lossVolume ≤ 4294967295 →
    let lost := if s.circ.loss = true then (d.getD 0).toNat * e / 60 else 0
    tellStrata d e false s = { s with log := { s.log with
      intervals := s.log.intervals.set (indexAt s.log.intervals (bitDepthGiven s))
        { x with lossVolume := min 4294967295 (x.lossVolume + lost) } } }) ∧
  (∀ (d : Option Int) (e : Nat) (x : Interval) (s : State), s.job.isOpen = true → s.circ.loss = false →
    s.log.intervals[indexAt s.log.intervals (bitDepthGiven s)]? = some x →
    let n := indexAt s.log.intervals (bitDepthGiven s)
    let struck : Strike := { depth := bitDepthGiven s, yieldRate := none, source := .gain }
    tellStrata d e true s =
      if x.strike.any (fun w => w.source == .reported) = true then s
      else raise .waterStrikeProposed n (bitDepthGiven s)
        { s with log := { s.log with intervals := s.log.intervals.set n { x with strike := some struck } } }) ∧
  ∀ (flowOut : Nat) (s : State),
    let states := [s.circ.p1.state, s.circ.p2.state, s.circ.flowOut.state, s.circ.pit.state]
    let seen := fun x : LagEntry => { x with
      quality := if .rejected ∈ x.quality :: states then .rejected
                 else if .suspect ∈ x.quality :: states then .suspect else .ok,
      strokesHeld := x.strokesHeld || s.circ.p1.state == .rejected || s.circ.p2.state == .rejected }
    lagHandOff flowOut s = releaseArrivals { s with lag := { s.lag with
      queue := s.lag.queue.map seen, returnsLoss := s.circ.loss, returnsFlowOut := some flowOut } }

/-- R83, R136: ADDITIVE, with the ticket line and the job total it adds to. -/
def Obligations.AdditiveOnTicketAndTotals : Prop :=
  ∀ (p : Port) (item units : Nat) (s : State), s.power = .running →
    let added := fun l : Line => { l with quantity := ((min 4294967295 (l.quantity.toNat + units) : Nat) : Int) }
    let total := s.meter.totals.units.set item (min 4294967295 (s.meter.totals.units.getD item 0 + units))
    exec (.additive p item units) s = .next (
      if p ≠ .mud then settled p 43 .notPermitted [] s
      else if s.modes.mode = .setup ∨ s.modes.mode = .standby then settled p 43 .wrongMode [] s
      else if 7 < item ∨ units = 0 ∨ 255 < units then settled p 43 .outOfRange [] s
      else if s.job.isOpen = false then settled p 43 .incomplete [] s
      else settled p 43 .ok [] { s with meter := { s.meter with
        openTicket := s.meter.openTicket.map fun t => { t with lines := updateLine (.additive item) added t.lines },
        totals := { s.meter.totals with units := total } } })

/-- R97: an entry that has left the queue, in the register with a status, and SAMPLE_DUE raised. -/
def Sys2Proof.arrived (e : LagEntry) (status : SampleStatus) (caught : Bool) (rest : List LagEntry) (s : State) : State :=
  let r : Sample :=
    { number := e.number, origin := e.origin, status := status, arrival := s.job.clock, caught := caught }
  raise .sampleDue e.number e.origin { s with
    lag := { s.lag with queue := rest },
    log := { s.log with samples := insertSample r s.log.samples } }

/-- R98: a sample of the register marked as caught. -/
def Sys2Proof.markedCaught (number : Nat) (s : State) : State :=
  { s with log := { s.log with samples := s.log.samples.map fun r =>
      if r.number = number then { r with caught := true } else r } }

/-- R98, R99: SAMPLE CAUGHT: the head, a sample already in the register, one behind the head, and one not issued. R97:
SAMPLE_ARRIVAL takes a timed head whose target is reached, with the status of its first rule that holds; otherwise nothing (log
entry 7). A release ends with a head that is not due, having taken only entries that were, from the front, each of which arrives in
queue order with its status, its record and its SAMPLE_DUE. -/
def Obligations.SamplesCaughtAndArrived : Prop :=
  (∀ (p : Port) (number : Nat) (s : State), s.power = .running →
    exec (.sampleCaught p number) s = .next (
      if p ≠ .mud then settled p 49 .notPermitted [] s
      else if number = 0 ∨ 3200 < number then settled p 49 .outOfRange [] s
      else if s.job.isOpen = false then settled p 49 .incomplete [] s
      else match s.lag.queue with
        | e :: rest =>
          if e.number = number then settled p 49 .ok [] (releaseArrivals (arrived e .caught true rest s))
          else if ∃ r ∈ s.log.samples, r.number = number then settled p 49 .alreadyArrived [] (markedCaught number s)
          else if ∃ e ∈ rest, e.number = number then settled p 49 .outOfOrder [] s
          else settled p 49 .noSuch [] s
        | [] =>
          if ∃ r ∈ s.log.samples, r.number = number then settled p 49 .alreadyArrived [] (markedCaught number s)
          else settled p 49 .noSuch [] s)) ∧
  (∀ s : State, s.power = .running →
    let status := fun e : LagEntry =>
      if s.lag.returnsLoss = true ∨ s.lag.returnsFlowOut = some 0 then SampleStatus.noReturns
      else if e.strokesHeld = true then .estimated else .returns
    exec .sampleArrival s = .next (
      match s.lag.queue with
      | [] => s
      | e :: rest =>
        match e.target with
        | none => s
        | some target => if target ≤ s.circ.pumped then arrived e (status e) false rest s else s)) ∧
  ∀ s : State, ∃ k : Nat, (releaseArrivals s).lag.queue = s.lag.queue.drop k ∧
    (∀ e ∈ s.lag.queue.take k, ∃ target ∈ e.target, target ≤ s.circ.pumped) ∧
    releaseArrivals s = (s.lag.queue.take k).foldl (fun t e =>
      let status := if s.lag.returnsLoss = true ∨ s.lag.returnsFlowOut = some 0 then SampleStatus.noReturns
        else if e.strokesHeld = true then .estimated else .returns
      arrived e status false t.lag.queue.tail t) s ∧
    ∀ e ∈ (s.lag.queue.drop k).head?, ∀ target ∈ e.target, s.circ.pumped < target

/-- R88: the components from the bit upward, each with its length and its OD. -/
def Sys2Proof.stringFromBit (s : State) : List (Nat × Nat) :=
  s.tally.bha.map (fun c => (c.length, c.od)) ++ s.tally.stack.filterMap fun serial =>
    (s.rack.rods.find? fun r => r.serial == serial).map fun r => (r.length, r.od)

/-- R88: the OD at the millimetre `k` above the bit, 0 above the string. -/
def Sys2Proof.odAbove (s : State) (k : Nat) : Nat :=
  ((stringFromBit s).flatMap fun c => List.replicate c.1 c.2).getD k 0

/-- R86, R90: the bore of the millimetre below depth `y`, that of the last section below the program. -/
def Sys2Proof.boreAt (program : List Section) (y : Nat) : Nat :=
  (((program.find? fun c => y < c.base).or program.getLast?).map Section.bore).getD 0

/-- R90, R91, R92, R94, R95: an increment issues one sample for each mark in it, in depth order, with the next numbers: as many as
the queue has room for join its tail, all with the same V_p and V_a, clamped to the last target; the rest go to the register as
MISSED. BELOW_PROGRAM is raised first, at the first issue below the program, and SAMPLE_MISSED for each sample not queued. R88, R89:
the pieces of [0, z] from the bit upward give every millimetre its OD and its bore, none is empty and no two that meet are alike in
both, and V_a is the sum of their volumes, each rounded by itself. -/
def Obligations.MarksIssueSamples : Prop :=
  (∀ (z : Nat) (s : State), (s.lag.program.map Section.base).Pairwise (· < ·) →
    (piecesOf s z).flatMap (fun x => List.replicate x.1 x.2) =
      (List.range z).map (fun k => (odAbove s k, boreAt s.lag.program (z - 1 - k))) ∧
    (∀ x ∈ piecesOf s z, 0 < x.1) ∧
    (∀ (i : Nat) (x y : Nat × Nat × Nat), (piecesOf s z)[i]? = some x → (piecesOf s z)[i + 1]? = some y → x.2 ≠ y.2)) ∧
  (∀ (z : Nat) (s : State), annularVolume s z = ((piecesOf s z).map fun (length, od, bore) =>
    (if bore ≤ od then 0 else (bore ^ 2 - od ^ 2) * 7854 / 10000) * length / 1000).sum) ∧
  ∀ (start interval a b : Nat) (s : State), s.job.start = some start → s.job.interval = some interval → 0 < interval →
    start ≤ a → a ≤ b →
    let marks := (List.range (b + 1)).filter fun m => a < m ∧ start < m ∧ (m - start) % interval = 0
    let queued := marks.take (64 - s.lag.queue.length)
    let missed := marks.drop (64 - s.lag.queue.length)
    let z := bitDepthGiven s
    let base := max (volume64 (s.circ.pumped + annularVolume s z)) ((s.lag.queue.filterMap LagEntry.target).getLast?.getD 0)
    let untimed := s.lag.program.isEmpty || (s.circ.pump1.displacement == 0 && s.circ.pump2.displacement == 0)
    let entries := queued.mapIdx fun i m =>
      { number := s.lag.nextSample + i, origin := m, issued := s.job.clock,
        target := if untimed = true then none else some base,
        quality := worstChannel s.circ, strokesHeld := strokesRejected s.circ : LagEntry }
    let records := missed.mapIdx fun i m =>
      { number := s.lag.nextSample + queued.length + i, origin := m, status := .missed, arrival := s.job.clock,
        caught := false : Sample }
    (issueSamples a b s).lag = { s.lag with
      queue := s.lag.queue ++ entries, nextSample := s.lag.nextSample + marks.length,
      belowProgram := s.lag.belowProgram ||
        (!marks.isEmpty && !s.lag.program.isEmpty && decide (programBase s.lag.program < z)) } ∧
    (issueSamples a b s).log = { s.log with samples := records.foldl (fun xs r => insertSample r xs) s.log.samples } ∧
    issueSamples a b s = { s with
      lag := (issueSamples a b s).lag, log := (issueSamples a b s).log, ports := (issueSamples a b s).ports } ∧
    (issueSamples a b s).ports =
      (let below := marks ≠ [] ∧ s.lag.program ≠ [] ∧ programBase s.lag.program < z ∧ s.lag.belowProgram = false
       let noted := if below then raise .belowProgram s.lag.program.length z s else s
       records.foldl (fun t r => raise .sampleMissed r.number r.origin t) noted).ports

/-! ### Chapter 6: the strata log -/

/-- R116: what an edit comes to when a check of R116 fails, and otherwise `next`. -/
def Sys2Proof.editOutcome (p : Port) (code : Nat) (s next : State) : State :=
  if p ≠ .record then settled p code .notPermitted [] s
  else if s.modes.mode = .standby then settled p code .wrongMode [] s
  else if s.job.isOpen = false then settled p code .incomplete [] s
  else next

/-- R116: an edit whose index does not name an interval is refused, and otherwise the edit goes on with the interval. -/
def Sys2Proof.indexedOutcome (p : Port) (code index : Nat) (s : State) (next : Interval → State) : State :=
  editOutcome p code s
    (match s.log.intervals[index]? with
    | none => settled p code .noSuch [] s
    | some x => next x)

/-- A field that R182 sends with a presence byte is refused: another presence byte (log entry 17), or a value outside its range. -/
def Sys2Proof.fieldRefused (f : OptField) (lo hi : Nat) : Prop := 1 < f.presence ∨ f.presence = 1 ∧ ¬ (lo ≤ f.value ∧ f.value ≤ hi)

/-- The value of such a field. -/
def Sys2Proof.fieldValue (f : OptField) : Option Nat := if f.presence = 1 then some f.value else none

/-- R112, R116, R119, R123: SET DRILL BREAK and RE ARM; CONFIRM, CLEAR WATER STRIKE and WATER STRIKE: one field of one interval. -/
def Obligations.DetectorConfirmAndStrikeRequests : Prop :=
  ((∀ (p : Port) (mode ratio : Nat) (s : State), s.power = .running →
    exec (.setDrillBreak p mode ratio) s = .next (
      if p ≠ .record then settled p 56 .notPermitted [] s
      else if ¬ (mode ≤ 2 ∧ 150 ≤ ratio ∧ ratio ≤ 400) then settled p 56 .outOfRange [] s
      else settled p 56 .ok [] { s with log := { s.log with detector := { s.log.detector with
        mode := if mode = 0 then .off else if mode = 1 then .single else .continuous,
        ratio := ratio, candidate := none, armed := true } } })) ∧
  ∀ (p : Port) (s : State), s.power = .running →
    exec (.reArm p) s = .next (
      if p ≠ .record then settled p 57 .notPermitted [] s
      else settled p 57 .ok [] { s with log := { s.log with detector := { s.log.detector with armed := true } } })) ∧
  (∀ (p : Port) (index : Nat) (s : State), s.power = .running →
    exec (.confirm p index) s = .next (indexedOutcome p 59 index s fun x =>
      settled p 59 .ok [] { s with log := { s.log with
        intervals := s.log.intervals.set index { x with boundary := .confirmed } } })) ∧
  (∀ (p : Port) (index : Nat) (s : State), s.power = .running →
    exec (.clearWaterStrike p index) s = .next (indexedOutcome p 63 index s fun x =>
      settled p 63 .ok [] { s with log := { s.log with
        intervals := s.log.intervals.set index { x with strike := none } } })) ∧
  ∀ (p : Port) (depth start hole : Nat) (yieldRate : OptField) (x : Interval) (s : State), s.power = .running →
    (s.job.isOpen = true → s.job.start = some start ∧ s.depth.hole = some hole ∧
      s.log.intervals[indexAt s.log.intervals depth]? = some x) →
    (¬ (depth < start ∨ hole < depth ∨ fieldRefused yieldRate 1 5000) →
      exec (.waterStrike p depth yieldRate) s = .next (editOutcome p 62 s (settled p 62 .ok [] { s with log := { s.log with
        intervals := s.log.intervals.set (indexAt s.log.intervals depth)
          { x with strike := some { depth := depth, yieldRate := fieldValue yieldRate, source := .reported } } } }))) ∧
    (depth < start ∨ hole < depth ∨ fieldRefused yieldRate 1 5000 →
      exec (.waterStrike p depth yieldRate) s = .next (editOutcome p 62 s (settled p 62 .outOfRange [] s)))

/-- R104, R105: in a log that covers the hole, the interval found for a depth from the start depth on is one that contains it. -/
def Obligations.IntervalFoundContainsDepth : Prop :=
  ∀ (z start : Nat) (s : State), LogCoversHole s → s.job.start = some start → start ≤ z →
    ∃ x, s.log.intervals[indexAt s.log.intervals z]? = some x ∧ x.top ≤ z ∧ ∀ base ∈ x.base, z < base

/-- R118: an interval whose effective band becomes `band` rebanded, and its band posted changed. -/
def Sys2Proof.reposted (index : Nat) (x : Interval) (band : Band) (s : State) : State :=
  if band = x.posted then s
  else
    let paid := reband x.top (x.base.getD (holeDepth s)) x.posted band s
    { paid with log := { s.log with intervals := s.log.intervals.set index { x with posted := band } } }

/-- The band of a code of R183. -/
def Sys2Proof.bandNamed (code : Nat) : Band :=
  if code = 0 then .bandA else if code = 1 then .bandB else if code = 2 then .bandC else .bandD

/-- R116, R117, R118: CLASSIFY (a lithology code of 0 is refused: log entry 18). -/
def Obligations.ClassifyReclassifies : Prop :=
  ∀ (p : Port) (index : Nat) (lithology band : OptField) (s : State), s.power = .running →
    (fieldRefused lithology 1 250 ∨ fieldRefused band 0 3 →
      exec (.classify p index lithology band) s =
        .next (indexedOutcome p 58 index s fun _ => settled p 58 .outOfRange [] s)) ∧
    (¬ (fieldRefused lithology 1 250 ∨ fieldRefused band 0 3) →
      exec (.classify p index lithology band) s = .next (indexedOutcome p 58 index s fun x =>
        let x := { x with lithology := fieldValue lithology, band := (fieldValue band).map bandNamed }
        settled p 58 .ok [] (reposted index x (x.band.getD s.meter.card.defaultBand)
          { s with log := { s.log with intervals := s.log.intervals.set index x } })))

/-- R111: the mean rate of an interval, from its 2nd completed segment on. -/
def Sys2Proof.meanOf (x : Interval) : Option Nat :=
  if 2 ≤ x.segments then some (x.drilledMm * 60 / max 1 x.drilledSeconds) else none

/-- R120: the interval that a merge makes. -/
def Sys2Proof.mergedInterval (upper lower : Interval) : Interval :=
  { upper with
    base := lower.base, drilledMm := upper.drilledMm + lower.drilledMm,
    drilledSeconds := min 4294967295 (upper.drilledSeconds + lower.drilledSeconds),
    segments := upper.segments + lower.segments, lossVolume := min 4294967295 (upper.lossVolume + lower.lossVolume),
    strike := upper.strike.or lower.strike }

/-- R120, R121: the detector after an edit of the OPEN interval. -/
def Sys2Proof.editedDetector (isOpen : Prop) [Decidable isOpen] (x : Interval) (d : Detector) : Detector :=
  if isOpen then { d with candidate := none, reference := meanOf x } else d

/-- R121: the upper part of a split interval, with its `k` completed segments. -/
def Sys2Proof.splitUpper (d k : Nat) (x : Interval) : Interval :=
  { x with
    base := some d, drilledMm := d - x.top, drilledSeconds := x.drilledSeconds * (d - x.top) / x.drilledMm, segments := k,
    strike := x.strike.filter fun w => w.depth < d }

/-- R121: the lower part. -/
def Sys2Proof.splitLower (d k : Nat) (x : Interval) : Interval :=
  { x with
    top := d, boundary := .confirmed, drilledMm := x.drilledMm - (d - x.top),
    drilledSeconds := x.drilledSeconds - x.drilledSeconds * (d - x.top) / x.drilledMm, segments := x.segments - k,
    breakFlag := false, lossVolume := 0, strike := x.strike.filter fun w => d ≤ w.depth }

/-- R116, R120: MERGE: the metering unit first, then the two intervals made one. R116, R121: SPLIT at a depth, of the interval
that contains it. -/
def Obligations.MergeAndSplitIntervals : Prop :=
  (∀ (p : Port) (index : Nat) (s : State), s.power = .running →
    exec (.merge p index) s = .next (indexedOutcome p 60 index s fun lower =>
      if index = 0 then settled p 60 .outOfRange [] s
      else match s.log.intervals[index - 1]? with
        | none => settled p 60 .outOfRange [] s
        | some upper =>
          let band := upper.band.getD s.meter.card.defaultBand
          let paid := if band = lower.band.getD s.meter.card.defaultBand then s
                      else reband lower.top (lower.base.getD (holeDepth s)) lower.posted band s
          let joined := mergedInterval upper lower
          settled p 60 .ok [] { paid with log := { s.log with
            intervals := s.log.intervals.take (index - 1) ++ [joined] ++ s.log.intervals.drop (index + 1),
            detector := editedDetector (index + 1 = s.log.intervals.length) joined s.log.detector } })) ∧
  ∀ (p : Port) (depth start hole : Nat) (x : Interval) (s : State), s.power = .running →
    (s.job.isOpen = true → s.job.start = some start ∧ s.depth.hole = some hole ∧
      s.log.intervals[indexAt s.log.intervals depth]? = some x) →
    exec (.split p depth) s = .next (editOutcome p 61 s
      (if depth ≤ start ∨ hole < depth ∨ ∃ y ∈ s.log.intervals, y.top = depth then settled p 61 .outOfRange [] s
      else if 400 ≤ s.log.intervals.length then settled p 61 .full [] s
      else
        let n := indexAt s.log.intervals depth
        let tops := (List.range ((hole - start) / 250)).map fun i => start + 250 * i
        let k := (tops.filter fun top => x.top ≤ top ∧ top < depth).length
        settled p 61 .ok [] { s with log := { s.log with
          intervals := s.log.intervals.take n ++ [splitUpper depth k x, splitLower depth k x] ++ s.log.intervals.drop (n + 1),
          detector := editedDetector (n + 1 = s.log.intervals.length) (splitLower depth k x) s.log.detector } }))

/-- R113: the kind of a segment of a rate against a mean. -/
def Sys2Proof.kindOfRate (ratio rate mean : Nat) : Option CandidateKind :=
  if ratio * mean ≤ rate * 100 then some .fast else if rate * ratio ≤ mean * 100 then some .slow else none

/-- R108, R110: the segment that ends at `e` counts to the interval that contains its top, becomes the last completed segment, is
judged if that interval is the OPEN one, and the segment seconds start again at 0. R113, R114, R115: the detector judges a
completed segment [top, e) of the OPEN interval `x`: off or disarmed, a drill break recognised with room in the log and without,
and any other segment (a reference mean of 0 counts as absent: log entry 34; where the interval holds fewer seconds than the pair, 0 are left: log
entry 40). -/
def Obligations.SegmentsCompletedAndJudged : Prop :=
  (∀ (e : Nat) (x : Interval) (s : State), s.log.intervals[indexAt s.log.intervals (e - 250)]? = some x →
    let n := indexAt s.log.intervals (e - 250)
    let rate := 15000 / max 1 s.log.segmentSeconds
    let ended := { s with log := { s.log with
      intervals := s.log.intervals.set n { x with segments := x.segments + 1 },
      lastSegment := some { top := e - 250, seconds := s.log.segmentSeconds, rate := rate } } }
    let judged := if n + 1 = s.log.intervals.length then judgeSegment (e - 250) e s.log.segmentSeconds rate ended else ended
    completeSegment e s = { judged with log := { judged.log with segmentSeconds := 0 } }) ∧
  ∀ (top e seconds rate : Nat) (x : Interval) (above : List Interval) (s : State), s.log.intervals = above ++ [x] →
    let d := s.log.detector
    let made : Option Candidate := match d.reference with
      | none => none
      | some 0 => none
      | some m => (kindOfRate d.ratio rate m).map fun k => { top := top, seconds := seconds, kind := k, mean := m }
    let disarmed := d.armed && (d.mode != .single)
    judgeSegment top e seconds rate s =
      if d.mode = .off ∨ d.armed = false then
        { s with log := { s.log with detector := { d with candidate := none, reference := meanOf x } } }
      else match d.candidate with
        | some c =>
          if kindOfRate d.ratio rate c.mean = some c.kind then
            if above.length + 1 < 400 then
              let closed := { x with
                base := some c.top, boundary := .confirmed, drilledMm := x.drilledMm - (e - c.top),
                drilledSeconds := x.drilledSeconds - (c.seconds + seconds), segments := x.segments - 2 }
              let opened : Interval :=
                { top := c.top, base := none, boundary := .proposed, lithology := none, band := x.band, posted := x.posted,
                  drilledMm := e - c.top, drilledSeconds := min 4294967295 (c.seconds + seconds), segments := 2, breakFlag := true,
                  lossVolume := 0, strike := none }
              raise .drillBreak (above.length + 1) c.top { s with log := { s.log with
                intervals := above ++ [closed, opened],
                detector := { d with candidate := none, reference := meanOf opened, armed := disarmed } } }
            else
              raise .logFull above.length c.top { s with log := { s.log with
                intervals := above ++ [{ x with breakFlag := true }],
                detector := { d with candidate := none, reference := meanOf x, armed := disarmed } } }
          else { s with log := { s.log with detector := { d with candidate := made, reference := meanOf x } } }
        | none => { s with log := { s.log with detector := { d with candidate := made, reference := meanOf x } } }


/-! ### Chapter 7: metering and tickets -/

/-- R128: the millimetres of (p, q] in a tier. -/
def Sys2Proof.mmInTier (tier p q : Nat) : Nat := min q (200000 * (tier + 1)) - max p (200000 * tier)

/-- R133: the quantity that a ticket holds under a key. -/
def Sys2Proof.quantityOn (k : LineKey) (t : Ticket) : Int := ((t.lines.filter fun l => l.key = k).map Line.quantity).sum

/-- R133: the cents that a ticket holds under a key. -/
def Sys2Proof.centsOn (k : LineKey) (t : Ticket) : Int := ((t.lines.filter fun l => l.key = k).map Line.cents).sum

/-- R137: round-half-up, for numbers that are not negative. -/
def Sys2Proof.nearest (num den : Nat) : Nat := (num + den / 2) / den

/-- R140: half away from zero, for signed numbers over 1,000,000. -/
def Sys2Proof.nearestSigned (num : Int) : Int := if 0 ≤ num then nearest num.toNat 1000000 else -(nearest (-num).toNat 1000000 : Int)

/-- R134, R146: an increment (a, b] accrues, tier by tier, to the FOOTAGE lines of its band and to the job totals, and to no other
line and no other field of the metering unit; nothing but the metering unit changes, and no notice is raised. -/
def Obligations.FootageAccruesByTier : Prop :=
  (∀ (band : Band) (a b : Nat) (s : State),
    accrueFootage band a b s = { s with meter := (accrueFootage band a b s).meter }) ∧
  ∀ (band : Band) (a b : Nat) (ticket : Ticket) (s : State), s.meter.openTicket = some ticket → b ≤ 1600000 →
    s.meter.totals.footage.length = 32 →
    ∃ after : Ticket, (accrueFootage band a b s).meter = { s.meter with
        openTicket := some after, totals := (accrueFootage band a b s).meter.totals } ∧
      after = { ticket with lines := after.lines } ∧
      (∀ tier < 8, quantityOn (.footage band tier) after = quantityOn (.footage band tier) ticket + mmInTier tier a b) ∧
      (∀ k : LineKey, (∀ tier < 8, k ≠ .footage band tier) → quantityOn k after = quantityOn k ticket) ∧
      (∀ k : LineKey, centsOn k after = centsOn k ticket) ∧
      (∀ other : Band, ∀ tier < 8,
        (accrueFootage band a b s).meter.totals.footage[8 * other.code + tier]? =
          s.meter.totals.footage[8 * other.code + tier]?.map fun v =>
            if other = band then v + mmInTier tier a b else v) ∧
      (accrueFootage band a b s).meter.totals.seconds = s.meter.totals.seconds ∧
      (accrueFootage band a b s).meter.totals.units = s.meter.totals.units

/-- R118, R140, R141: a rebanding call for the range [top, bottom], taken from the start depth on. Above H_c the old and the new
band's ADJUSTMENT lines take the length, and the new one the cents, a sum of one rounded product for each tier; below it the
FOOTAGE lines of the two bands exchange the length, tier by tier; the job totals exchange the whole length. In any state, a call
changes nothing but the open ticket and the footage of the job totals: no notice, no second and no unit. -/
def Obligations.RebandingByRule : Prop :=
  (∀ (top bottom : Nat) (old new : Band) (s : State),
    let meter := (reband top bottom old new s).meter
    reband top bottom old new s = { s with meter := { s.meter with
      openTicket := meter.openTicket, totals := { s.meter.totals with footage := meter.totals.footage } } }) ∧
  ∀ (top bottom start : Nat) (old new : Band) (ticket : Ticket) (s : State), s.meter.openTicket = some ticket →
    s.job.start = some start → old ≠ new → bottom ≤ 1600000 → s.meter.totals.footage.length = 32 →
    let u := max top start
    let q := min bottom s.meter.closedDepth
    let v := max u s.meter.closedDepth
    let card := s.meter.card
    let change : Int := (card.bandRates.getD new.code 0 : Int) - (card.bandRates.getD old.code 0 : Int)
    let cents := ((List.range 8).map fun tier =>
      nearestSigned ((mmInTier tier u q : Int) * change * (card.multipliers.getD tier 0 : Int))).sum
    ∃ after : Ticket, (reband top bottom old new s).meter = { s.meter with
        openTicket := some after, totals := (reband top bottom old new s).meter.totals } ∧
      after = { ticket with lines := after.lines } ∧
      quantityOn (.adjustment new) after = quantityOn (.adjustment new) ticket + ((q - u : Nat) : Int) ∧
      quantityOn (.adjustment old) after = quantityOn (.adjustment old) ticket - ((q - u : Nat) : Int) ∧
      centsOn (.adjustment new) after = centsOn (.adjustment new) ticket + cents ∧
      (∀ k : LineKey, k ≠ .adjustment new → centsOn k after = centsOn k ticket) ∧
      (∀ tier < 8,
        quantityOn (.footage new tier) after = quantityOn (.footage new tier) ticket + mmInTier tier v bottom ∧
        quantityOn (.footage old tier) after = quantityOn (.footage old tier) ticket - mmInTier tier v bottom) ∧
      (∀ k : LineKey, k ≠ .adjustment new → k ≠ .adjustment old →
        (∀ tier < 8, k ≠ .footage new tier ∧ k ≠ .footage old tier) → quantityOn k after = quantityOn k ticket) ∧
      (∀ other : Band, ∀ tier < 8,
        (reband top bottom old new s).meter.totals.footage[8 * other.code + tier]? =
          s.meter.totals.footage[8 * other.code + tier]?.map fun mm =>
            if other = new then mm + mmInTier tier u bottom
            else if other = old then mm - mmInTier tier u bottom else mm)

/-- R129: what a rate-card write comes to when a check fails, and otherwise `next`. -/
def Sys2Proof.cardOutcome (p : Port) (code : Nat) (refused : Prop) [Decidable refused] (s next : State) : State :=
  if p ≠ .record then settled p code .notPermitted [] s
  else if s.modes.mode ≠ .setup then settled p code .wrongMode [] s
  else if refused then settled p code .outOfRange [] s
  else if s.job.isOpen = true ∧ (∃ t ∈ s.meter.openTicket, ∃ l ∈ t.lines, l.key ≠ .unwitnessed ∧ l.key ≠ .setup) then
    settled p code .ticketOpen [] s
  else next

/-- R118, R130: an unclassified interval reposted under the default band. -/
def Sys2Proof.repostedIfUnclassified (s : State) (index : Nat) : State :=
  match s.log.intervals[index]? with
  | none => s
  | some x => if x.band = none then reposted index x s.meter.card.defaultBand s else s

/-- R118, R129, R130, R131: the four rate-card writes; a change of default band with a job open reposts every unclassified interval
under the rates just stored, in ascending index. -/
def Obligations.RateCardWrites : Prop :=
  (∀ (p : Port) (rates : List Nat) (defaultBand : Nat) (s : State), s.power = .running →
    exec (.setBandRates p rates defaultBand) s = .next (
      cardOutcome p 64 ((∃ v ∈ rates, 100000 < v) ∨ 3 < defaultBand) s (
        let band := bandNamed defaultBand
        let stored := { s with meter := { s.meter with
          card := { s.meter.card with bandRates := rates, defaultBand := band } } }
        settled p 64 .ok []
          (if band ≠ s.meter.card.defaultBand ∧ s.job.isOpen = true then
            (List.range s.log.intervals.length).foldl repostedIfUnclassified stored
          else stored)))) ∧
  (∀ (p : Port) (multipliers : List Nat) (s : State), s.power = .running →
    exec (.setTierMultipliers p multipliers) s = .next (
      cardOutcome p 65 (∃ v ∈ multipliers, v ≠ 0 ∧ ¬ (500 ≤ v ∧ v ≤ 4000)) s (
        let stored := List.zipWith (fun v standard => if v = 0 then standard else v) multipliers
          [1000, 1100, 1250, 1400, 1600, 1800, 2000, 2250]
        settled p 65 .ok [] { s with meter := { s.meter with card := { s.meter.card with multipliers := stored } } }))) ∧
  (∀ (p : Port) (rates : List Nat) (s : State), s.power = .running →
    exec (.setHourlyRates p rates) s = .next (
      cardOutcome p 66 (∃ v ∈ rates, 1000000 < v) s
        (settled p 66 .ok [] { s with meter := { s.meter with card := { s.meter.card with hourly := rates } } }))) ∧
  ∀ (p : Port) (prices : List Nat) (s : State), s.power = .running →
    exec (.setAdditivePrices p prices) s = .next (
      cardOutcome p 67 (∃ v ∈ prices, 1000000 < v) s
        (settled p 67 .ok [] { s with meter := { s.meter with card := { s.meter.card with prices := prices } } }))

/-- R137: the amount of a line before its limit. -/
def Sys2Proof.unlimitedAmount (card : RateCard) (l : Line) : Option Int :=
  let q := l.quantity.toNat
  match l.key with
  | .footage band tier =>
    some (nearest (q * card.bandRates.getD band.code 0 * card.multipliers.getD tier 0) 1000000 : Nat)
  | .time activity => some (nearest ((q + 359) / 360 * card.hourly.getD activity.code 0) 10 : Nat)
  | .additive item => some (q * card.prices.getD item 0 : Nat)
  | .adjustment _ => some l.cents
  | .unwitnessed => none
  | .setup => none

/-- R138: an amount limited. -/
def Sys2Proof.limited (v : Int) : Int := max (-2147483647) (min 2147483647 v)

/-- R137, R138, R142: a ticket priced and closed. -/
def Sys2Proof.closedTicket (card : RateCard) (reference clock hole : Nat) (t : Ticket) : Ticket :=
  let amounts := t.lines.map (unlimitedAmount card)
  let total := ((amounts.filterMap id).map limited).sum
  { t with
    reference := some reference, clockClose := some clock, holeClose := some hole,
    lines := t.lines.map fun l => { l with amount := (unlimitedAmount card l).map limited },
    total := some (limited total),
    saturated := (amounts.filterMap id).any (fun v => limited v != v) || limited total != total }

/-- R139, R142: the state with the open ticket moved to the closed list, and TICKET_CLOSED raised. -/
def Sys2Proof.ticketFiled (reference : Nat) (ticket : Ticket) (s : State) : State :=
  let closed := closedTicket s.meter.card reference s.job.clock (holeDepth s) ticket
  raise .ticketClosed ticket.number (holeDepth s) { s with meter := { s.meter with
    closed := s.meter.closed ++ [closed], openTicket := none, closedDepth := holeDepth s } }

/-- R137, R138, R142, R145: CLOSE TICKET and ACKNOWLEDGE TICKET. -/
def Obligations.TicketsClosedAndAcknowledged : Prop :=
  (∀ (p : Port) (reference : Nat) (ticket : Ticket) (s : State), s.power = .running →
    (s.job.isOpen = true → s.meter.openTicket = some ticket) →
    exec (.closeTicket p reference) s = .next (
      if p ≠ .record then settled p 68 .notPermitted [] s
      else if s.job.isOpen = false then settled p 68 .incomplete [] s
      else if 4 ≤ s.meter.closed.length then settled p 68 .full [] s
      else
        let filed := ticketFiled reference ticket s
        let opened : Ticket :=
          { number := if ticket.number = 65535 then 1 else ticket.number + 1, reference := none, clockOpen := s.job.clock,
            clockClose := none, holeOpen := holeDepth s, holeClose := none, powerEvents := 0, lines := [], total := none,
            saturated := false }
        settled p 68 .ok [] { filed with meter := { filed.meter with openTicket := some opened } })) ∧
  ∀ (p : Port) (number : Nat) (s : State), s.power = .running →
    exec (.acknowledgeTicket p number) s = .next (
      if p ≠ .record then settled p 69 .notPermitted [] s
      else match s.meter.closed with
        | [] => settled p 69 .noSuch [] s
        | t :: rest =>
          if t.number ≠ number then settled p 69 .outOfOrder [] s
          else settled p 69 .ok [] { s with meter := { s.meter with closed := rest } })

/-! ### Chapter 8: notices -/

/-- R155: a record of lower level, or of equal level and lower kind code, comes first. -/
def Sys2Proof.comesFirst (x y : Notice) : Bool :=
  decide (x.level < y.level) || (decide (x.level = y.level) && decide (x.kind.code < y.kind.code))

/-- R154: the kind codes that are mandatory for a port. -/
def Sys2Proof.mandatoryCodes : Port → List Nat
  | .floor => [1, 2, 6, 7, 8]
  | .mud => [1, 3, 4, 5]
  | .record => [22]

/-- R150, R154, R155, R156, R158: what a port does with a notice. -/
def Sys2Proof.filedTo (p : Port) (r : Notice) (x : PortState) : PortState :=
  let x := { x with summary := x.summary.set (r.kind.code - 1) true }
  let takes := fun f : Filter => f.enabled && (r.kind.code &&& f.mask) == (f.pattern &&& f.mask)
  let placed := fun queue : List Notice =>
    queue.takeWhile (fun y => !comesFirst r y) ++ [r] ++ queue.dropWhile (fun y => !comesFirst r y)
  if r.kind.code ∉ mandatoryCodes p ∧ takes x.filter1 = false ∧ takes x.filter2 = false then x
  else if x.queue.length < 16 then { x with queue := placed x.queue }
  else
    { x with
      queue := if (x.queue.getLast?.any (comesFirst r)) = true then placed x.queue.dropLast else x.queue,
      lost := min 65535 (x.lost + 1) }

/-- R150, R154, R155, R156, R158: a notice raised is filed to the three ports, and changes nothing else. -/
def Obligations.NoticesFiledByRule : Prop :=
  ∀ (k : NoticeKind) (a b : Nat) (s : State),
    let r : Notice :=
      { kind := k, level := s.levels.getD (k.code - 1) 0, argA := a, argB := b,
        jobClock := if s.job.isOpen = true then s.job.clock else 0 }
    raise k a b s = { s with ports :=
      { floor := filedTo .floor r s.ports.floor, mud := filedTo .mud r s.ports.mud,
        record := filedTo .record r s.ports.record } }

/-- R152, R153, R157, R159, R161, R189, R192: the requests on levels, filters, queues and summaries, and PORT RESET. -/
def Obligations.NoticeAndPortRequests : Prop :=
  (∀ (p : Port) (levels : List Nat) (s : State), s.power = .running →
    exec (.setNoticeLevels p levels) s = .next (
      if p ≠ .record then settled p 72 .notPermitted [] s
      else if s.modes.mode ≠ .setup then settled p 72 .wrongMode [] s
      else if ∃ v ∈ levels, 3 < v then settled p 72 .outOfRange [] s
      else settled p 72 .ok [] { s with levels := levels })) ∧
  (∀ (p : Port) (pair enable mask pattern : Nat) (s : State), s.power = .running →
    let f : Filter := { enabled := decide (enable = 1), mask := mask, pattern := pattern }
    let x := s.ports.get p
    let set := s.ports.set p (if pair = 1 then { x with filter1 := f } else { x with filter2 := f })
    exec (.setNoticeFilter p pair enable mask pattern) s = .next (
      if ¬ ((pair = 1 ∨ pair = 2) ∧ enable ≤ 1 ∧ mask ≤ 31 ∧ pattern ≤ 31) then settled p 73 .outOfRange [] s
      else settled p 73 .ok [] { s with ports := set })) ∧
  (∀ (p : Port) (s : State), s.power = .running →
    let x := s.ports.get p
    let record := match x.queue with
      | [] => List.replicate 13 0
      | r :: _ => num1 1 ++ num1 r.kind.code ++ num1 r.level ++ num2 r.argA ++ num4 r.argB ++ num4 r.jobClock
    exec (.readNotice p) s = .next (settled p 184 .ok (record ++ num1 (x.queue.length - 1) ++ num2 x.lost)
      { s with ports := s.ports.set p { x with queue := x.queue.tail } })) ∧
  (∀ (p : Port) (s : State), s.power = .running →
    let x := s.ports.get p
    exec (.readSummary p) s = .next (settled p 185 .ok (x.summary.flatMap flag)
      { s with ports := s.ports.set p { x with summary := List.replicate 25 false } })) ∧
  ∀ (p : Port) (s : State), s.power = .running →
    exec (.portReset p) s = .next (settled p 88 .ok []
      { s with ports := s.ports.set p { freshPort with dataOut := (s.ports.get p).dataOut } })

/-! ### Chapter 9: operating modes -/

/-- R166: the sum of the codes of the rig-quiet conditions that fail. -/
def Sys2Proof.quietSum (s : State) : Nat :=
  (if s.tally.handling = none then 0 else 1) + (if s.tally.stab = none then 0 else 2) +
    (if s.circ.status = .on then 4 else 0) + (if s.tally.state = .unresolved then 8 else 0) +
    (if s.tally.slips.fault = true ∨ s.tally.pump.fault = true then 16 else 0)

/-- R166: the same for the standby condition. -/
def Sys2Proof.standbySum (s : State) : Nat :=
  quietSum s + if s.tally.state = .inSlipsLatched ∨ s.tally.state = .inSlipsFree then 0 else 32

/-- R169: the sum of the codes of the entry checks that fail. -/
def Sys2Proof.entrySum (s : State) : Nat :=
  (if s.job.isOpen = true then 0 else 1) + (if s.lag.program = [] then 2 else 0) + (if s.tally.bha = [] then 4 else 0)

/-- R165, R167: a mode request taken: no request is pending after it, and the mode is the one named. -/
def Sys2Proof.modeTaken (m : Mode) (s : State) : State := setMode m { s with modes := { s.modes with request := none } }

/-- R167: a mode request that goes pending, in place of any held before. -/
def Sys2Proof.modePending (target : Mode) (origin : Port) (failing : Nat) (s : State) : State :=
  raise .modePending target.code failing
    { s with modes := { s.modes with request := some { target := target, origin := origin } } }

/-- R38, R39: the two permit drives under a mode control. -/
def Sys2Proof.permitsUnder (m : Modes) (t : Tally) : Tally :=
  { t with
    slips := { t.slips with drive := decide (t.state = .inSlipsLatched ∧ t.stab = none ∧ m.mode ≠ .standby) },
    pump := { t.pump with drive := decide ((t.state = .onBlock ∨ t.state = .inSlipsLatched) ∧
                (m.mode ≠ .standby ∨ m.circulation.wake = true)) } }

/-- R167 to R171: the four mode requests. R167, R174, R176: CANCEL MODE, and SET WAKE TABLE over the four sources that a frame
carries, which re-evaluates PUMP PERMIT. The model's choices: the FLOOR_ACTIVITY event of an ENTER STANDBY from FLOOR that enters
STANDBY is judged in STANDBY (log entry 41); the entry checks are made in SETUP alone, with no job open too (log entry 43). -/
def Obligations.ModeControlRequests : Prop :=
  ((∀ (p : Port) (s : State), s.power = .running →
    exec (.enterSetup p) s = .next (
      if p ≠ .record then settled p 80 .notPermitted [] s
      else if s.modes.mode = .setup ∨ quietSum s = 0 then settled p 80 .ok [] (modeTaken .setup s)
      else settled p 80 .pending [] (modePending .setup p (quietSum s) s))) ∧
  (∀ (p : Port) (s : State), s.power = .running →
    exec (.enterRun p) s = .next (
      if p ≠ .record then settled p 81 .notPermitted [] s
      else if s.modes.mode = .setup ∧ entrySum s ≠ 0 then settled p 81 .incomplete (num1 (entrySum s)) s
      else settled p 81 .ok [] (modeTaken .run s))) ∧
  (∀ (p : Port) (s : State), s.power = .running →
    exec (.enterWatch p) s = .next (
      if p ≠ .record then settled p 82 .notPermitted [] s
      else if s.modes.mode = .setup then settled p 82 .wrongMode [] s
      else settled p 82 .ok [] (modeTaken .watch s))) ∧
  ∀ (p : Port) (s : State), s.power = .running →
    exec (.enterStandby p) s = .next (
      if s.modes.mode = .setup ∧ entrySum s ≠ 0 then settled p 83 .incomplete (num1 (entrySum s)) s
      else if s.modes.mode = .standby ∨ standbySum s = 0 then settled p 83 .ok [] (modeTaken .standby s)
      else settled p 83 .pending [] (modePending .standby p (standbySum s) s))) ∧
  (∀ (p : Port) (s : State), s.power = .running →
    exec (.cancelMode p) s = .next (
      match s.modes.request with
      | none => settled p 84 .noSuch [] s
      | some r =>
        if p ≠ .record ∧ p ≠ r.origin then settled p 84 .notPermitted [] s
        else settled p 84 .ok [] { s with modes := { s.modes with request := none } })) ∧
  ∀ (p : Port) (a b c d : WakeField) (s : State), s.power = .running →
    let flags := fun x : WakeField => { wake := decide (x.wake = 1), notice := decide (x.notice = 1) : WakeFlags }
    let modes := { s.modes with
      floorActivity := flags a, circulation := flags b, recordRequest := flags c, artesian := flags d }
    exec (.setWakeTable p [a, b, c, d]) s = .next (
      if p ≠ .record then settled p 85 .notPermitted [] s
      else if s.modes.mode ≠ .setup then settled p 85 .wrongMode [] s
      else if ∃ x ∈ [a, b, c, d], 1 < x.wake ∨ 1 < x.notice then settled p 85 .outOfRange [] s
      else settled p 85 .ok [] { s with modes := modes, tally := permitsUnder modes s.tally })

/-- R100, R127, R175: entering SETUP: the lag queue abandoned to the register, head first, the alarms and streaks cleared with
their notices, the segment seconds and the candidate cleared. -/
def Sys2Proof.setupEntered (s : State) : State :=
  let record := fun e : LagEntry =>
    { number := e.number, origin := e.origin, status := .abandoned, arrival := s.job.clock, caught := false : Sample }
  let samples := s.lag.queue.foldl (fun xs e => insertSample (record e) xs) s.log.samples
  let cleared := { s with
    lag := { s.lag with queue := [] },
    circ := { s.circ with lossStreak := 0, gainStreak := 0, balancedStreak := 0, loss := false, gain := false },
    log := { s.log with
      samples := samples, segmentSeconds := 0, detector := { s.log.detector with candidate := none } } }
  let noted := if s.circ.loss = true then raise .loss 0 (bitDepthGiven s) cleared else cleared
  if s.circ.gain = true then raise .gain 0 (bitDepthGiven s) noted else noted

/-- R165, R172, R173, R175: a change of mode, with the permits, the entry to SETUP and MODE_CHANGED, the mode already held left as it
is; and the taking of a pending mode request at a re-check. -/
def Obligations.ModeChangesAndPendingTaken : Prop :=
  (∀ s : State, setMode s.modes.mode s = s) ∧
  (∀ (m : Mode) (s : State), m ≠ s.modes.mode →
    let modes := { s.modes with mode := m }
    let changed := { s with modes := modes, tally := permitsUnder modes s.tally }
    setMode m s = raise .modeChanged m.code s.modes.mode.code (if m = .setup then setupEntered changed else changed)) ∧
  ∀ s : State, s.power = .running →
    exec .pendingModeTaken s = .next (
      match s.modes.request with
      | none => s
      | some r =>
        if (if r.target = .standby then standbySum s else quietSum s) = 0 then modeTaken r.target s else s)

/-- R177, R178: which requests are wake events, by port and request code, and what one does, in STANDBY and elsewhere; the mode is
the one held once the request has been handled, a request that entered STANDBY included (log entry 41). -/
def Obligations.WakeEventsByRule : Prop :=
  (∀ (p : Port) (code : Nat), requestWake p code =
    if code < 128 ∧ p = .floor then [.floorActivity]
    else if code < 128 ∧ p = .record ∧ ¬ (80 ≤ code ∧ code ≤ 84) then [.recordRequest]
    else []) ∧
  ∀ (w : WakeSource) (s : State),
    let f := s.modes.flags w
    let noted := if f.notice = true then raise .standbyEvent w.number f.wake.toNat s else s
    wakeEvent w s =
      if s.modes.mode ≠ .standby then s else if f.wake = true then recheck (setMode .watch noted) else noted

/-! ### Chapter 10: ports and requests -/

/-- R180, R185: a read transaction of `n` bytes, the first among them, on a running part, with a frame waiting and without; with RESET
held it shifts out zeros and takes nothing; in the dark, and where no byte was clocked, it does nothing (log entry 25). R181,
R185, R187: a reply of up to 250 bytes of payload takes the slot of its port: its length, the request code, the reply code and the
flag of a reply not read, the payload, and a check byte that makes the sum 0, and the write transaction that it ends shifted out zeros alone; BAD FRAME counts one on its port, UNKNOWN REQUEST
does not, and neither does anything else. -/
def Obligations.TransactionsAndReplies : Prop :=
  (∀ (p : Port) (n : Nat) (s : State),
    let x := s.ports.get p
    let out := fun frame : List Byte => (frame ++ List.replicate (n - 1) 0).take (n - 1)
    (n = 0 ∨ s.power = .off ∨ s.power = .offResetHeld → exec (.readTransaction p n) s = .next s) ∧
    (0 < n → s.power = .resetHeld →
      exec (.readTransaction p n) s = .next { s with ports := s.ports.set p { x with dataOut := out [] } }) ∧
    (0 < n → s.power = .running → x.slot = none →
      exec (.readTransaction p n) s = .next { s with ports := s.ports.set p { x with dataOut := out [] } }) ∧
    ∀ frame : List Byte, 0 < n → s.power = .running → x.slot = some frame →
      let taken := { x with dataOut := out frame, slot := if frame.length + 1 ≤ n then none else some frame }
      exec (.readTransaction p n) s = .next { s with ports := s.ports.set p taken }) ∧
  (∀ (p : Port) (code : Nat) (c : ReplyCode) (payload : List Byte) (s : State), payload.length ≤ 250 →
    ∃ check : Byte,
      let x := s.ports.get p
      let header := [BitVec.ofNat 8 (payload.length + 5), BitVec.ofNat 8 code, BitVec.ofNat 8 c.code,
        if x.slot = none then 0 else 1]
      let frame := header ++ payload ++ [check]
      placeReply p code c payload s = { s with ports := s.ports.set p { x with slot := some frame, dataOut := [] } } ∧
        frame.foldl (· + ·) 0 = 0 ∧ frame.length = payload.length + 5) ∧
  (∀ (p : Port) (code : Nat) (s : State), s.power = .running →
    let x := s.ports.get p
    let counted := { x with frameErrors := min 255 (x.frameErrors + 1) }
    exec (.badFrame p code) s = .next (placeReply p code .badFrame [] { s with ports := s.ports.set p counted })) ∧
  ∀ (p : Port) (code : Nat) (s : State), s.power = .running →
    exec (.unknownRequest p code) s = .next (placeReply p code .unknownRequest [] s)

/-! ### Chapter 11: jobs, retained state and power -/

/-- R52, R101, R126, R144, R194, R195: OPEN JOB, with the depth computation, and CLOSE JOB, which leaves no ticket open. -/
def Obligations.JobsOpenedAndClosed : Prop :=
  (∀ (p : Port) (number start interval : Nat) (s : State), s.power = .running →
    let whole : Interval :=
      { top := start, base := none, boundary := .confirmed, lithology := none, band := none,
        posted := s.meter.card.defaultBand, drilledMm := 0, drilledSeconds := 0, segments := 0, breakFlag := false,
        lossVolume := 0, strike := none }
    let ticket : Ticket :=
      { number := 1, reference := none, clockOpen := 0, clockClose := none, holeOpen := start, holeClose := none,
        powerEvents := 0, lines := [], total := none, saturated := false }
    exec (.openJob p number start interval) s = .next (
      if p ≠ .record then settled p 96 .notPermitted [] s
      else if s.modes.mode ≠ .setup then settled p 96 .wrongMode [] s
      else if ¬ (1 ≤ number ∧ number ≤ 65535 ∧ start ≤ 1500000 ∧ 500 ≤ interval ∧ interval ≤ 5000) then
        settled p 96 .outOfRange [] s
      else if s.job.isOpen = true then settled p 96 .busy [] s
      else if s.meter.closed ≠ [] then settled p 96 .ticketsPending [] s
      else settled p 96 .ok [] (depthCompute { s with
        job := { isOpen := true, number := some number, start := some start, interval := some interval, clock := 0 },
        depth := { s.depth with hole := some start, disagree := false, limit := false },
        circ := { s.circ with pumped := 0 },
        lag := { s.lag with queue := [], nextSample := 1, belowProgram := false },
        log := { s.log with
          intervals := [whole], samples := [], segmentSeconds := 0, lastSegment := none,
          detector := { s.log.detector with
            mode := .single, armed := true, reference := none, candidate := none } },
        meter := { s.meter with
          openTicket := some ticket, closedDepth := start,
          totals := { footage := List.replicate 32 0, seconds := List.replicate 5 0, units := List.replicate 8 0 } } }))) ∧
  ∀ (p : Port) (reference : Nat) (ticket : Ticket) (s : State), s.power = .running →
    (s.job.isOpen = true → s.meter.openTicket = some ticket) →
    exec (.closeJob p reference) s = .next (
      if p ≠ .record then settled p 97 .notPermitted [] s
      else if s.modes.mode ≠ .setup then settled p 97 .wrongMode [] s
      else if s.job.isOpen = false then settled p 97 .incomplete [] s
      else if 4 ≤ s.meter.closed.length then settled p 97 .full [] s
      else
        let filed := ticketFiled reference ticket s
        settled p 97 .ok [] { filed with job := { filed.job with isOpen := false } })

/-- R196, R197: the volatile state of the part lost, and every retained field kept; both permits withdrawn, the seconds counter at 0. -/
def Sys2Proof.volatileLost (power : Power) (s : State) : State :=
  { State.reset with
    power := power, storeBlank := false, pending := s.pending, levels := s.levels, log := s.log, meter := s.meter, job := s.job,
    rack := { s.rack with slots := s.rack.slots.map fun x => { x with sensed := .unknown, discrepancy := false } },
    tally := { State.reset.tally with
      bha := s.tally.bha, stack := s.tally.stack, handling := s.tally.handling, state := s.tally.state,
      makeupMin := s.tally.makeupMin, makeupMax := s.tally.makeupMax, pump := State.reset.tally.slips },
    depth := { State.reset.depth with hole := s.depth.hole },
    circ := { State.reset.circ with
      pump1 := s.circ.pump1, pump2 := s.circ.pump2, lossThreshold := s.circ.lossThreshold,
      gainThreshold := s.circ.gainThreshold, flowOutMax := s.circ.flowOutMax, pitStep := s.circ.pitStep,
      pumped := s.circ.pumped },
    lag := { s.lag with returnsLoss := false, returnsFlowOut := none },
    modes := { s.modes with request := none } }

/-- R39, R41, R149, R197: the power-on sequence over a valid store: the volatile state fresh, the mode chosen, the power event, the
tally checked, the permits driven. -/
def Sys2Proof.poweredOn (s : State) : State :=
  let t := volatileLost .running s
  let mode : Mode := if s.job.isOpen = true ∧ entrySum s = 0 then .watch else .setup
  let t := if mode = s.modes.mode then t
           else raise .modeChanged mode.code s.modes.mode.code { t with modes := { t.modes with mode := mode } }
  let ticket := t.meter.openTicket.map fun x : Ticket =>
    if s.job.isOpen = true then { x with powerEvents := min 65535 (x.powerEvents + 1) } else x
  let t := { t with meter := { t.meter with openTicket := ticket } }
  let t := match s.tally.handling with
    | none => t
    | some serial => raise .rodUnresolved serial 0 { t with tally := { t.tally with state := .unresolved } }
  { t with tally := permitsUnder t.modes t.tally }

/-- R180, R196, R197: power on and power loss, and the RESET input, which holds the part whether it comes before the supply or after
(how the two meet: log entry 23); while the part is held or dark, every command but these and a read transaction has no effect,
but that a write transaction on a held part shifts out zeros (log entry 25). -/
def Obligations.PowerAndResetInput : Prop :=
  (∀ s : State, s.power = .off ∨ s.power = .running → exec (.powerOn true) s = .next (poweredOn s)) ∧
  (∀ (valid : Bool) (s : State), s.power = .resetHeld ∨ s.power = .offResetHeld →
    exec (.powerOn valid) s = .next (volatileLost .resetHeld s)) ∧
  (∀ s : State, exec .powerLoss s = .next (
    volatileLost (if s.power = .resetHeld ∨ s.power = .offResetHeld then .offResetHeld else .off) s)) ∧
  (∀ s : State, exec .resetAsserted s = .next (
    if s.power = .running then
      { s with power := .resetHeld, tally := { s.tally with
        slips := { s.tally.slips with drive := false }, pump := { s.tally.pump with drive := false } } }
    else if s.power = .off then { s with power := .offResetHeld }
    else s)) ∧
  (∀ s : State, s.power = .resetHeld → exec (.resetReleased true) s = .next (poweredOn s)) ∧
  (∀ s : State, s.power = .resetHeld → exec (.resetReleased false) s = .next { State.reset with pending := s.pending }) ∧
  (∀ (valid : Bool) (s : State), s.power = .offResetHeld → exec (.resetReleased valid) s = .next { s with power := .off }) ∧
  (∀ (valid : Bool) (s : State), s.power = .off ∨ s.power = .running → exec (.resetReleased valid) s = .next s) ∧
  ∀ (c : Instr) (s : State), s.power ≠ .running → (∀ v, c ≠ .powerOn v) → (∀ v, c ≠ .resetReleased v) → c ≠ .powerLoss →
    c ≠ .resetAsserted → (∀ p n, c ≠ .readTransaction p n) →
    exec c s = .next (
      match c.port with
      | none => s
      | some p =>
        if s.power = .resetHeld then { s with ports := s.ports.set p { s.ports.get p with dataOut := [] } } else s)

/-! ### Reads -/

/-- A read that refuses where `refused` names a reply code, and otherwise replies OK; nothing else changes. -/
def Sys2Proof.readOutcome (p : Port) (code : Nat) (refused : Option ReplyCode) (payload : List Byte) (s : State) :
    Host.Outcome State Fault Refusal :=
  match refused with
  | some c => .next (placeReply p code c [] s)
  | none => .next (placeReply p code .ok payload s)

/-- R182: a number that may be absent, in `n` bytes after its presence byte. -/
def Sys2Proof.maybe (bytes : Nat → List Byte) (n : Nat) (v : Option Nat) : List Byte :=
  match v with
  | none => List.replicate (n + 1) 0
  | some v => 1 :: bytes v

/-- R182: a list cut from a position, after its count byte. -/
def Sys2Proof.listFrom (bytes : Nat → List Byte) (position n : Nat) (xs : List Nat) : List Byte :=
  num1 ((xs.drop position).take n).length ++ ((xs.drop position).take n).flatMap bytes

/-- R16, R183: where a rod lies, as its location code and the slot number or the stack position, 0 for the other two. -/
def Sys2Proof.placeBytes (s : State) (serial : Nat) : List Byte :=
  match s.rack.slots.findIdx? fun x => x.occupant == some serial with
  | some n => [0] ++ num2 n
  | none =>
    match s.tally.stack.findIdx? fun x => x == serial with
    | some k => [1] ++ num2 (k + 1)
    | none => if s.tally.handling = some serial then [2, 0, 0] else [3, 0, 0]

/-- R102, R183: the kind byte of the section that contains a depth, 2 below the program. -/
def Sys2Proof.sectionByte (program : List Section) (z : Nat) : Byte :=
  match program.find? fun c => z < c.base with
  | some c => if c.kind = .cased then 0 else 1
  | none => 2

/-- R102: the lag in strokes of a pump, absent for an absent pump. -/
def Sys2Proof.strokesOf (x : Pump) (volume : Nat) : Option Nat :=
  let stroke := x.displacement * x.efficiency / 1000
  if x.displacement = 0 then none else some ((volume + stroke - 1) / stroke)

/-- R16, R43, R61, R84, R102, R103: the reads of the rods, the rack and the tally, of the depth unit, the circulation unit and the lag
unit, from every port in every mode, with every field of their replies, in the order in which the rule lists them (log entry 15). The
model's choices: READ TALLY samples the sense lines (log entry 4), an empty occupant is sent as an absent field (log entry 37), the
pieces and the kind of READ ANNULUS without V_a are free values (log entry 14), a number too great for its bytes is sent as a free
value (log entry 12). -/
def Obligations.RackTallyAndDepthReads : Prop :=
  (∀ (p : Port) (n : Nat) (s : State), s.power = .running →
    exec (.readRod p n) s =
      (match s.rack.rods.find? fun r => r.serial == n with
      | none => readOutcome p 128 (if n = 0 then some .outOfRange else some .noSuch) [] s
      | some r => readOutcome p 128 (if n = 0 then some .outOfRange else none)
          (num2 r.serial ++ num2 r.length ++ num1 r.od ++ num4 r.rotatingSeconds ++ num2 r.jointsMade ++
            num1 r.status.code ++ placeBytes s r.serial) s) ∧
    exec (.readRodList p n) s = readOutcome p 129 (if 255 < n then some .outOfRange else none)
      (num2 s.rack.rods.length ++ listFrom num2 n 16 (s.rack.rods.map Rod.serial)) s ∧
    exec (.readSlot p n) s = readOutcome p 130 (if 255 < n then some .outOfRange else none)
      (maybe num2 2 (slotAt s.rack n).occupant ++ num1 (slotAt s.rack n).sensing.toNat ++
        num1 (slotAt s.rack n).sensed.code ++ num1 (slotAt s.rack n).discrepancy.toNat) s ∧
    exec (.readLaidOutList p n) s = readOutcome p 131 (if 31 < n then some .outOfRange else none)
      (num1 s.rack.laidOut.length ++ listFrom num2 n 16 s.rack.laidOut) s ∧
    exec (.readWearLimits p) s = readOutcome p 132 none (num2 s.rack.jointLimit ++ num2 s.rack.hourLimit) s ∧
    (∀ pins : SensePins,
      let line := fun (x : PermitLine) (sense : Bool) => num1 x.drive.toNat ++ num1 sense.toNat ++ num1 x.fault.toNat
      let sensed := { s with tally := { s.tally with
        slips := { s.tally.slips with sense := pins.slips }, pump := { s.tally.pump with sense := pins.pump } } }
      exec (.readTally p pins) s = readOutcome p 136 none
        (num1 s.tally.state.code ++ maybe num4 4 s.tally.stab ++ num2 (s.tally.handling.getD 0) ++
          num2 s.tally.stack.length ++ num4 (lengthOfString s) ++ line s.tally.slips pins.slips ++
          line s.tally.pump pins.pump ++ num2 s.tally.earlyConfirms ++ maybe num4 4 s.tally.lastMove) sensed) ∧
    exec (.readStack p n) s = readOutcome p 137 (if n = 0 ∨ 256 < n then some .outOfRange else none)
      (num2 s.tally.stack.length ++ listFrom num2 (n - 1) 16 s.tally.stack) s ∧
    exec (.readBha p) s = readOutcome p 138 none
      (num1 s.tally.bha.length ++ s.tally.bha.flatMap fun c => num1 c.kind.code ++ num2 c.length ++ num2 c.od) s ∧
    exec (.readMakeupLimits p) s = readOutcome p 139 none (num1 s.tally.makeupMin ++ num2 s.tally.makeupMax) s) ∧
  (∀ (p : Port) (s : State), s.power = .running →
    let bottom := s.job.isOpen = true ∧ ∃ z ∈ s.depth.bit, ∃ h ∈ s.depth.hole, h ≤ z + 300
    let bit := fun b : Bool => num1 b.toNat
    let top := match s.depth.stringTop with
      | none => [0, 0, 0, 0, 0]
      | some v => [1] ++ int4 v
    exec (.readDepth p) s = readOutcome p 144 none
      (maybe num2 2 s.depth.block ++ bit s.depth.rotation ++ top ++ (if s.tally.state = .onBlock then [0] else [1]) ++
        maybe num4 4 s.depth.bit ++ bit s.depth.aboveTable ++ maybe num4 4 s.depth.hole ++ bit s.job.isOpen ++
        (if bottom then [1] else [0]) ++ bit s.depth.down ++ num1 s.depth.activity.code ++ bit s.depth.disagree ++
        bit s.depth.limit) s) ∧
  (∀ (p : Port) (s : State), s.power = .running →
    let c := s.circ
    let signed := fun v : Option Int => match v with
      | none => [0, 0, 0, 0, 0]
      | some v => [1] ++ int4 v
    exec (.readCirculation p) s = readOutcome p 152 none
      (num1 c.status.code ++ num8 c.pumped ++ maybe num4 4 c.reportSecond ++ maybe num4 4 c.lastE ++
        maybe num4 4 c.lastVolume ++ num4 c.flowIn ++ signed c.flowOutUsed ++ signed c.lastD ++ num1 c.lossStreak ++
        num1 c.gainStreak ++ num1 c.balancedStreak ++ num1 c.loss.toNat ++ num1 c.gain.toNat ++ num1 c.p1.state.code ++
        num1 c.p2.state.code ++ num1 c.flowOut.state.code ++ num1 c.pit.state.code) s) ∧
  (∀ (p : Port) (n : Nat) (s : State), s.power = .running →
    (∀ x : Channel, [s.circ.p1, s.circ.p2, s.circ.flowOut, s.circ.pit][n - 1]? = some x →
      exec (.readChannel p n) s = readOutcome p 153 (if n = 0 then some .outOfRange else none)
        (num2 x.counter ++ num1 x.state.code ++ num1 x.recovery ++
          (if n = 4 then maybe num2 2 x.last ++ maybe num2 2 x.reference
           else if n = 3 then num2 (x.last.getD 0) else num4 (x.last.getD 0))) s) ∧
    (4 < n → exec (.readChannel p n) s = readOutcome p 153 (some .outOfRange) [] s) ∧
    exec (.readPumps p) s = readOutcome p 154 none
      (num2 s.circ.pump1.displacement ++ num2 s.circ.pump1.efficiency ++ num1 s.circ.pump1.maxRate ++
        num2 s.circ.pump2.displacement ++ num2 s.circ.pump2.efficiency ++ num1 s.circ.pump2.maxRate ++
        num4 (s.circ.pump1.displacement * s.circ.pump1.efficiency / 1000) ++
        num4 (s.circ.pump2.displacement * s.circ.pump2.efficiency / 1000) ++ num2 s.circ.lossThreshold ++
        num2 s.circ.gainThreshold ++ num2 s.circ.flowOutMax ++ num2 s.circ.pitStep) s ∧
    exec (.readLagQueue p n) s = readOutcome p 162 (if 63 < n then some .outOfRange else none)
      (let found := (s.lag.queue.drop n).take 2
       num1 s.lag.queue.length ++ num2 s.lag.nextSample ++ num8 s.circ.pumped ++ num1 found.length ++
         found.flatMap fun e => num2 e.number ++ num4 e.origin ++ num4 e.issued ++ maybe num8 8 e.target ++
           num1 e.quality.code ++ num1 e.strokesHeld.toNat) s) ∧
  (∀ (p : Port) (s : State), s.power = .running →
    let tops := 0 :: s.lag.program.map Section.base
    exec (.readCasingProgram p) s = readOutcome p 160 none
      (num1 s.lag.program.length ++
        (s.lag.program.zip tops).flatMap (fun x =>
          num4 x.2 ++ num4 x.1.base ++ num2 x.1.bore ++ (if x.1.kind = .cased then [0] else [1])) ++
        num1 s.lag.belowProgram.toNat) s) ∧
  ∀ (p : Port) (s : State), s.power = .running →
    (∀ z : Nat, s.depth.bit = some z → s.lag.program ≠ [] →
      let v := annularVolume s z
      exec (.readAnnulus p) s = readOutcome p 161 none
        ([1] ++ num4 z ++ [1] ++ num4 v ++ num4 (piecesOf s z).length ++ [sectionByte s.lag.program z] ++
          maybe num4 4 (strokesOf s.circ.pump1 v) ++ maybe num4 4 (strokesOf s.circ.pump2 v)) s) ∧
    (s.depth.bit = none ∨ s.lag.program = [] →
      exec (.readAnnulus p) s = readOutcome p 161 none
        (maybe num4 4 s.depth.bit ++ [0, 0, 0, 0, 0] ++ num4 Config.annulusPiecesWhenAbsent.toNat ++
          num1 Config.annulusKindWhenAbsent.toNat ++ [0, 0, 0, 0, 0] ++ [0, 0, 0, 0, 0]) s)

/-- R104, R107, R125: what READ INTERVAL returns of the interval `x` at an index of a log. -/
def Sys2Proof.intervalReply (g : StrataLog) (index : Nat) (x : Interval) : List Byte :=
  let members := (g.samples.filter fun r => x.top ≤ r.origin ∧ ∀ base ∈ x.base, r.origin < base).map Sample.number
  num4 x.top ++ maybe num4 4 x.base ++ num1 x.boundary.code ++ maybe num1 1 x.lithology ++
    maybe num1 1 (x.band.map Band.code) ++ num1 x.posted.code ++ num4 x.drilledMm ++ num4 x.drilledSeconds ++
    num2 x.segments ++ num1 x.breakFlag.toNat ++ num4 x.lossVolume ++
    (match x.strike with
     | none => List.replicate 9 0
     | some w => [1] ++ num4 w.depth ++ maybe num2 2 w.yieldRate ++ num1 w.source.code) ++
    (if index + 1 = g.intervals.length then [0] else num1 x.boundary.code) ++ maybe num4 4 (meanOf x) ++
    num2 members.length ++ maybe num2 2 members.head? ++ maybe num2 2 members.getLast?

/-- R182, R183, R184: the kind byte and the two key bytes of a ticket line. -/
def Sys2Proof.lineName : LineKey → List Byte
  | .footage band tier => [0] ++ num1 band.code ++ num1 tier
  | .time activity => [1] ++ num1 activity.code ++ [0]
  | .additive item => [2] ++ num1 item ++ [0]
  | .adjustment band => [3] ++ num1 band.code ++ [0]
  | .unwitnessed => [4, 0, 0]
  | .setup => [5, 0, 0]

/-- R182: a signed number that may be absent, in 4 bytes after its presence byte. -/
def Sys2Proof.maybeSigned (v : Option Int) : List Byte :=
  match v with
  | none => [0, 0, 0, 0, 0]
  | some v => [1] ++ int4 v

/-- R184: a ticket line, 25 bytes: its name, quantity, cents, billed tenths, amount and provisional flag. -/
def Sys2Proof.lineBytesOf (provisional : Bool) (amount : Option Int) (l : Line) : List Byte :=
  lineName l.key ++
    (match l.key with
     | .adjustment _ => int4 l.quantity
     | _ => num4 l.quantity.toNat) ++
    int8 l.cents ++
    (match l.key with
     | .time _ => num4 ((l.quantity.toNat + 359) / 360)
     | _ => num4 0) ++
    maybeSigned amount ++ num1 provisional.toNat

/-- R184: the header of a ticket, 38 bytes, and then the lines of a page, 0 to 8 after their count. -/
def Sys2Proof.ticketReply (isOpen : Bool) (provisional : Option Int) (amount : Line → Option Int) (pageNumber : Nat)
    (t : Ticket) : List Byte :=
  num2 t.number ++ maybe num2 2 t.reference ++ num4 t.clockOpen ++ maybe num4 4 t.clockClose ++ num4 t.holeOpen ++
    maybe num4 4 t.holeClose ++ num2 t.powerEvents ++ num1 t.lines.length ++ maybeSigned t.total ++
    num1 t.saturated.toNat ++ num1 isOpen.toNat ++ maybeSigned provisional ++
    num1 ((t.lines.drop (8 * pageNumber)).take 8).length ++
    ((t.lines.drop (8 * pageNumber)).take 8).flatMap fun l => lineBytesOf isOpen (amount l) l

/-- R107, R125, R147, R148, R184: the reads of the strata log and of the metering unit; R162, R166, R169, R176, R179, R190, R199: those
of the notices, the modes, the ports and the job; from every port in every mode, with every field of their replies, in the order in
which the rule lists them (log entry 15; READ TICKET as R184 lays it out). The top of the current segment before the first job is a
free value (log entry 13), and the lowest and highest number of no samples are sent as absent fields (log entry 42). -/
def Obligations.LogMeteringAndPartReads : Prop :=
  (∀ (p : Port) (s : State), s.power = .running →
    let d := s.log.detector
    let top := match s.job.start, s.depth.hole with
      | some start, some hole => start + 250 * ((hole - start) / 250)
      | _, _ => Config.segmentTopBeforeFirstJob.toNat
    let candidate := match d.candidate with
      | none => List.replicate 14 0
      | some c => [1] ++ num4 c.top ++ num4 c.seconds ++ (if c.kind = .fast then [0] else [1]) ++ num4 c.mean
    let last := match s.log.lastSegment with
      | none => List.replicate 11 0
      | some x => [1] ++ num4 x.top ++ num4 x.seconds ++ num2 x.rate
    exec (.readLog p) s = readOutcome p 168 none
      (num2 s.log.intervals.length ++ num2 s.log.samples.length ++ num1 d.mode.code ++ num2 d.ratio ++
        num1 d.armed.toNat ++ maybe num4 4 d.reference ++ candidate ++ num4 s.log.segmentSeconds ++ num4 top ++ last) s) ∧
  (∀ (p : Port) (n m : Nat) (s : State), s.power = .running →
    (399 < n → exec (.readInterval p n) s = readOutcome p 169 (some .outOfRange) [] s) ∧
    (n ≤ 399 → s.log.intervals.length ≤ n → exec (.readInterval p n) s = readOutcome p 169 (some .noSuch) [] s) ∧
    (∀ x : Interval, n ≤ 399 → s.log.intervals[n]? = some x →
      exec (.readInterval p n) s = readOutcome p 169 none (intervalReply s.log n x) s) ∧
    exec (.readIntervalAtDepth p n) s = readOutcome p 170 none (num2 (indexAt s.log.intervals n)) s ∧
    exec (.readSamples p n) s = readOutcome p 171 (if n = 0 ∨ 3200 < n then some .outOfRange else none)
      (let found := (s.log.samples.filter fun r => n ≤ r.number).take 4
       num2 s.log.samples.length ++ num1 found.length ++ found.flatMap fun r =>
         num2 r.number ++ num4 r.origin ++ num1 r.status.code ++ num4 r.arrival ++ num1 r.caught.toNat) s ∧
    (6 < m → exec (.readTicket p n m) s = readOutcome p 176 (some .outOfRange) [] s) ∧
    (m ≤ 6 → exec (.readTicket p 0 m) s =
      match s.meter.openTicket with
      | none => readOutcome p 176 (some .noSuch) [] s
      | some t =>
        let amount := fun l : Line => (unlimitedAmount s.meter.card l).map limited
        readOutcome p 176 (if s.job.isOpen = true then none else some .noSuch)
          (ticketReply true (some (limited (t.lines.filterMap amount).sum)) amount m t) s) ∧
    (m ≤ 6 → n ≠ 0 → exec (.readTicket p n m) s =
      match s.meter.closed.find? fun t => t.number == n with
      | none => readOutcome p 176 (some .noSuch) [] s
      | some t => readOutcome p 176 none (ticketReply false none Line.amount m t) s) ∧
    exec (.readRateCard p n) s = readOutcome p 177 (if 3 < n then some .outOfRange else none)
      (let card := s.meter.card
       let group := if n = 0 then card.bandRates.flatMap num4 ++ num1 card.defaultBand.code
         else if n = 1 then card.multipliers.flatMap num2
         else if n = 2 then card.hourly.flatMap num4 else card.prices.flatMap num4
       let refusing := s.job.isOpen = true ∧
         ∃ t ∈ s.meter.openTicket, ∃ l ∈ t.lines, l.key ≠ .unwitnessed ∧ l.key ≠ .setup
       group ++ num4 s.meter.closedDepth ++ (if s.modes.mode = .setup ∧ ¬ refusing then [1] else [0])) s ∧
    exec (.readJobTotals p n) s = readOutcome p 178 (if 5 < n then some .outOfRange else none)
      (let t := s.meter.totals
       let group := if n ≤ 3 then ((t.footage.drop (8 * n)).take 8).flatMap num4
         else if n = 4 then t.seconds.flatMap num4 else t.units.flatMap num4
       group ++ maybe num4 4 s.job.start ++ maybe num4 4 s.depth.hole ++ num1 s.job.isOpen.toNat) s) ∧
  ∀ (p : Port) (s : State), s.power = .running →
    let x := s.ports.get p
    let pair := fun f : Filter => num1 f.enabled.toNat ++ num1 f.mask ++ num1 f.pattern
    let wake := fun f : WakeFlags => num1 f.wake.toNat ++ num1 f.notice.toNat
    let condition := fun failing : Nat => if failing = 0 then [1, 0, 0] else [0, 1] ++ num1 failing
    exec (.readNoticeStatus p) s = readOutcome p 186 none
      (num1 x.queue.length ++
        (match x.queue with
        | [] => List.replicate 5 0
        | r :: _ => num1 1 ++ num1 r.level ++ num1 r.kind.code ++ num2 r.argA) ++
        num2 x.lost ++ pair x.filter1 ++ pair x.filter2 ++ (if x.queue = [] then [0] else [1])) s ∧
    exec (.readNoticeLevels p) s = readOutcome p 187 none (s.levels.flatMap num1) s ∧
    exec (.readMode p) s = readOutcome p 192 none
      (num1 s.modes.mode.code ++
        (match s.modes.request with
        | none => [0, 0, 0]
        | some r => [1] ++ num1 r.target.code ++ num1 (portNumber r.origin)) ++
        condition (quietSum s) ++ condition (standbySum s) ++ num1 (entrySum s) ++ wake s.modes.floorActivity ++
        wake s.modes.circulation ++ wake s.modes.recordRequest ++ wake s.modes.artesian) s ∧
    exec (.readPortStatus p) s = readOutcome p 200 none
      (num1 (portNumber p) ++ num1 x.frameErrors ++ num4 s.seconds) s ∧
    exec (.readJob p) s = readOutcome p 208 none
      (num1 s.job.isOpen.toNat ++ maybe num2 2 s.job.number ++ maybe num4 4 s.job.start ++ maybe num2 2 s.job.interval ++
        num4 s.job.clock ++
        maybe num2 2 (if s.job.isOpen = true then s.meter.openTicket.map Ticket.number else none) ++
        num1 s.meter.closed.length ++ num1 s.storeBlank.toNat) s

end
end

