-- ==== Sys2Proof/Laws/State.lean ====
section
/-! SUPPORT. Laws/State.lean: what each update of State does to each field, and the ports read after a write, so that no later
proof unfolds a record update. -/

namespace Sys2Proof.Machine

/-! ### setPower -/

@[simp] theorem State.setPower_power (s : State) (x : Power) : (s.setPower x).power = x := rfl
@[simp] theorem State.setPower_seconds (s : State) (x : Power) : (s.setPower x).seconds = s.seconds := rfl
@[simp] theorem State.setPower_storeBlank (s : State) (x : Power) : (s.setPower x).storeBlank = s.storeBlank := rfl
@[simp] theorem State.setPower_rack (s : State) (x : Power) : (s.setPower x).rack = s.rack := rfl
@[simp] theorem State.setPower_tally (s : State) (x : Power) : (s.setPower x).tally = s.tally := rfl
@[simp] theorem State.setPower_depth (s : State) (x : Power) : (s.setPower x).depth = s.depth := rfl
@[simp] theorem State.setPower_circ (s : State) (x : Power) : (s.setPower x).circ = s.circ := rfl
@[simp] theorem State.setPower_lag (s : State) (x : Power) : (s.setPower x).lag = s.lag := rfl
@[simp] theorem State.setPower_log (s : State) (x : Power) : (s.setPower x).log = s.log := rfl
@[simp] theorem State.setPower_meter (s : State) (x : Power) : (s.setPower x).meter = s.meter := rfl
@[simp] theorem State.setPower_levels (s : State) (x : Power) : (s.setPower x).levels = s.levels := rfl
@[simp] theorem State.setPower_ports (s : State) (x : Power) : (s.setPower x).ports = s.ports := rfl
@[simp] theorem State.setPower_modes (s : State) (x : Power) : (s.setPower x).modes = s.modes := rfl
@[simp] theorem State.setPower_job (s : State) (x : Power) : (s.setPower x).job = s.job := rfl
@[simp] theorem State.setPower_pending (s : State) (x : Power) : (s.setPower x).pending = s.pending := rfl

/-! ### setSeconds -/

@[simp] theorem State.setSeconds_power (s : State) (x : Nat) : (s.setSeconds x).power = s.power := rfl
@[simp] theorem State.setSeconds_seconds (s : State) (x : Nat) : (s.setSeconds x).seconds = x := rfl
@[simp] theorem State.setSeconds_storeBlank (s : State) (x : Nat) : (s.setSeconds x).storeBlank = s.storeBlank := rfl
@[simp] theorem State.setSeconds_rack (s : State) (x : Nat) : (s.setSeconds x).rack = s.rack := rfl
@[simp] theorem State.setSeconds_tally (s : State) (x : Nat) : (s.setSeconds x).tally = s.tally := rfl
@[simp] theorem State.setSeconds_depth (s : State) (x : Nat) : (s.setSeconds x).depth = s.depth := rfl
@[simp] theorem State.setSeconds_circ (s : State) (x : Nat) : (s.setSeconds x).circ = s.circ := rfl
@[simp] theorem State.setSeconds_lag (s : State) (x : Nat) : (s.setSeconds x).lag = s.lag := rfl
@[simp] theorem State.setSeconds_log (s : State) (x : Nat) : (s.setSeconds x).log = s.log := rfl
@[simp] theorem State.setSeconds_meter (s : State) (x : Nat) : (s.setSeconds x).meter = s.meter := rfl
@[simp] theorem State.setSeconds_levels (s : State) (x : Nat) : (s.setSeconds x).levels = s.levels := rfl
@[simp] theorem State.setSeconds_ports (s : State) (x : Nat) : (s.setSeconds x).ports = s.ports := rfl
@[simp] theorem State.setSeconds_modes (s : State) (x : Nat) : (s.setSeconds x).modes = s.modes := rfl
@[simp] theorem State.setSeconds_job (s : State) (x : Nat) : (s.setSeconds x).job = s.job := rfl
@[simp] theorem State.setSeconds_pending (s : State) (x : Nat) : (s.setSeconds x).pending = s.pending := rfl

/-! ### setStoreBlank -/

@[simp] theorem State.setStoreBlank_power (s : State) (x : Bool) : (s.setStoreBlank x).power = s.power := rfl
@[simp] theorem State.setStoreBlank_seconds (s : State) (x : Bool) : (s.setStoreBlank x).seconds = s.seconds := rfl
@[simp] theorem State.setStoreBlank_storeBlank (s : State) (x : Bool) : (s.setStoreBlank x).storeBlank = x := rfl
@[simp] theorem State.setStoreBlank_rack (s : State) (x : Bool) : (s.setStoreBlank x).rack = s.rack := rfl
@[simp] theorem State.setStoreBlank_tally (s : State) (x : Bool) : (s.setStoreBlank x).tally = s.tally := rfl
@[simp] theorem State.setStoreBlank_depth (s : State) (x : Bool) : (s.setStoreBlank x).depth = s.depth := rfl
@[simp] theorem State.setStoreBlank_circ (s : State) (x : Bool) : (s.setStoreBlank x).circ = s.circ := rfl
@[simp] theorem State.setStoreBlank_lag (s : State) (x : Bool) : (s.setStoreBlank x).lag = s.lag := rfl
@[simp] theorem State.setStoreBlank_log (s : State) (x : Bool) : (s.setStoreBlank x).log = s.log := rfl
@[simp] theorem State.setStoreBlank_meter (s : State) (x : Bool) : (s.setStoreBlank x).meter = s.meter := rfl
@[simp] theorem State.setStoreBlank_levels (s : State) (x : Bool) : (s.setStoreBlank x).levels = s.levels := rfl
@[simp] theorem State.setStoreBlank_ports (s : State) (x : Bool) : (s.setStoreBlank x).ports = s.ports := rfl
@[simp] theorem State.setStoreBlank_modes (s : State) (x : Bool) : (s.setStoreBlank x).modes = s.modes := rfl
@[simp] theorem State.setStoreBlank_job (s : State) (x : Bool) : (s.setStoreBlank x).job = s.job := rfl
@[simp] theorem State.setStoreBlank_pending (s : State) (x : Bool) : (s.setStoreBlank x).pending = s.pending := rfl

/-! ### setRack -/

@[simp] theorem State.setRack_power (s : State) (x : Rack) : (s.setRack x).power = s.power := rfl
@[simp] theorem State.setRack_seconds (s : State) (x : Rack) : (s.setRack x).seconds = s.seconds := rfl
@[simp] theorem State.setRack_storeBlank (s : State) (x : Rack) : (s.setRack x).storeBlank = s.storeBlank := rfl
@[simp] theorem State.setRack_rack (s : State) (x : Rack) : (s.setRack x).rack = x := rfl
@[simp] theorem State.setRack_tally (s : State) (x : Rack) : (s.setRack x).tally = s.tally := rfl
@[simp] theorem State.setRack_depth (s : State) (x : Rack) : (s.setRack x).depth = s.depth := rfl
@[simp] theorem State.setRack_circ (s : State) (x : Rack) : (s.setRack x).circ = s.circ := rfl
@[simp] theorem State.setRack_lag (s : State) (x : Rack) : (s.setRack x).lag = s.lag := rfl
@[simp] theorem State.setRack_log (s : State) (x : Rack) : (s.setRack x).log = s.log := rfl
@[simp] theorem State.setRack_meter (s : State) (x : Rack) : (s.setRack x).meter = s.meter := rfl
@[simp] theorem State.setRack_levels (s : State) (x : Rack) : (s.setRack x).levels = s.levels := rfl
@[simp] theorem State.setRack_ports (s : State) (x : Rack) : (s.setRack x).ports = s.ports := rfl
@[simp] theorem State.setRack_modes (s : State) (x : Rack) : (s.setRack x).modes = s.modes := rfl
@[simp] theorem State.setRack_job (s : State) (x : Rack) : (s.setRack x).job = s.job := rfl
@[simp] theorem State.setRack_pending (s : State) (x : Rack) : (s.setRack x).pending = s.pending := rfl

/-! ### setTally -/

@[simp] theorem State.setTally_power (s : State) (x : Tally) : (s.setTally x).power = s.power := rfl
@[simp] theorem State.setTally_seconds (s : State) (x : Tally) : (s.setTally x).seconds = s.seconds := rfl
@[simp] theorem State.setTally_storeBlank (s : State) (x : Tally) : (s.setTally x).storeBlank = s.storeBlank := rfl
@[simp] theorem State.setTally_rack (s : State) (x : Tally) : (s.setTally x).rack = s.rack := rfl
@[simp] theorem State.setTally_tally (s : State) (x : Tally) : (s.setTally x).tally = x := rfl
@[simp] theorem State.setTally_depth (s : State) (x : Tally) : (s.setTally x).depth = s.depth := rfl
@[simp] theorem State.setTally_circ (s : State) (x : Tally) : (s.setTally x).circ = s.circ := rfl
@[simp] theorem State.setTally_lag (s : State) (x : Tally) : (s.setTally x).lag = s.lag := rfl
@[simp] theorem State.setTally_log (s : State) (x : Tally) : (s.setTally x).log = s.log := rfl
@[simp] theorem State.setTally_meter (s : State) (x : Tally) : (s.setTally x).meter = s.meter := rfl
@[simp] theorem State.setTally_levels (s : State) (x : Tally) : (s.setTally x).levels = s.levels := rfl
@[simp] theorem State.setTally_ports (s : State) (x : Tally) : (s.setTally x).ports = s.ports := rfl
@[simp] theorem State.setTally_modes (s : State) (x : Tally) : (s.setTally x).modes = s.modes := rfl
@[simp] theorem State.setTally_job (s : State) (x : Tally) : (s.setTally x).job = s.job := rfl
@[simp] theorem State.setTally_pending (s : State) (x : Tally) : (s.setTally x).pending = s.pending := rfl

/-! ### setDepth -/

@[simp] theorem State.setDepth_power (s : State) (x : Depth) : (s.setDepth x).power = s.power := rfl
@[simp] theorem State.setDepth_seconds (s : State) (x : Depth) : (s.setDepth x).seconds = s.seconds := rfl
@[simp] theorem State.setDepth_storeBlank (s : State) (x : Depth) : (s.setDepth x).storeBlank = s.storeBlank := rfl
@[simp] theorem State.setDepth_rack (s : State) (x : Depth) : (s.setDepth x).rack = s.rack := rfl
@[simp] theorem State.setDepth_tally (s : State) (x : Depth) : (s.setDepth x).tally = s.tally := rfl
@[simp] theorem State.setDepth_depth (s : State) (x : Depth) : (s.setDepth x).depth = x := rfl
@[simp] theorem State.setDepth_circ (s : State) (x : Depth) : (s.setDepth x).circ = s.circ := rfl
@[simp] theorem State.setDepth_lag (s : State) (x : Depth) : (s.setDepth x).lag = s.lag := rfl
@[simp] theorem State.setDepth_log (s : State) (x : Depth) : (s.setDepth x).log = s.log := rfl
@[simp] theorem State.setDepth_meter (s : State) (x : Depth) : (s.setDepth x).meter = s.meter := rfl
@[simp] theorem State.setDepth_levels (s : State) (x : Depth) : (s.setDepth x).levels = s.levels := rfl
@[simp] theorem State.setDepth_ports (s : State) (x : Depth) : (s.setDepth x).ports = s.ports := rfl
@[simp] theorem State.setDepth_modes (s : State) (x : Depth) : (s.setDepth x).modes = s.modes := rfl
@[simp] theorem State.setDepth_job (s : State) (x : Depth) : (s.setDepth x).job = s.job := rfl
@[simp] theorem State.setDepth_pending (s : State) (x : Depth) : (s.setDepth x).pending = s.pending := rfl

/-! ### setCirc -/

@[simp] theorem State.setCirc_power (s : State) (x : Circ) : (s.setCirc x).power = s.power := rfl
@[simp] theorem State.setCirc_seconds (s : State) (x : Circ) : (s.setCirc x).seconds = s.seconds := rfl
@[simp] theorem State.setCirc_storeBlank (s : State) (x : Circ) : (s.setCirc x).storeBlank = s.storeBlank := rfl
@[simp] theorem State.setCirc_rack (s : State) (x : Circ) : (s.setCirc x).rack = s.rack := rfl
@[simp] theorem State.setCirc_tally (s : State) (x : Circ) : (s.setCirc x).tally = s.tally := rfl
@[simp] theorem State.setCirc_depth (s : State) (x : Circ) : (s.setCirc x).depth = s.depth := rfl
@[simp] theorem State.setCirc_circ (s : State) (x : Circ) : (s.setCirc x).circ = x := rfl
@[simp] theorem State.setCirc_lag (s : State) (x : Circ) : (s.setCirc x).lag = s.lag := rfl
@[simp] theorem State.setCirc_log (s : State) (x : Circ) : (s.setCirc x).log = s.log := rfl
@[simp] theorem State.setCirc_meter (s : State) (x : Circ) : (s.setCirc x).meter = s.meter := rfl
@[simp] theorem State.setCirc_levels (s : State) (x : Circ) : (s.setCirc x).levels = s.levels := rfl
@[simp] theorem State.setCirc_ports (s : State) (x : Circ) : (s.setCirc x).ports = s.ports := rfl
@[simp] theorem State.setCirc_modes (s : State) (x : Circ) : (s.setCirc x).modes = s.modes := rfl
@[simp] theorem State.setCirc_job (s : State) (x : Circ) : (s.setCirc x).job = s.job := rfl
@[simp] theorem State.setCirc_pending (s : State) (x : Circ) : (s.setCirc x).pending = s.pending := rfl

/-! ### setLag -/

@[simp] theorem State.setLag_power (s : State) (x : Lag) : (s.setLag x).power = s.power := rfl
@[simp] theorem State.setLag_seconds (s : State) (x : Lag) : (s.setLag x).seconds = s.seconds := rfl
@[simp] theorem State.setLag_storeBlank (s : State) (x : Lag) : (s.setLag x).storeBlank = s.storeBlank := rfl
@[simp] theorem State.setLag_rack (s : State) (x : Lag) : (s.setLag x).rack = s.rack := rfl
@[simp] theorem State.setLag_tally (s : State) (x : Lag) : (s.setLag x).tally = s.tally := rfl
@[simp] theorem State.setLag_depth (s : State) (x : Lag) : (s.setLag x).depth = s.depth := rfl
@[simp] theorem State.setLag_circ (s : State) (x : Lag) : (s.setLag x).circ = s.circ := rfl
@[simp] theorem State.setLag_lag (s : State) (x : Lag) : (s.setLag x).lag = x := rfl
@[simp] theorem State.setLag_log (s : State) (x : Lag) : (s.setLag x).log = s.log := rfl
@[simp] theorem State.setLag_meter (s : State) (x : Lag) : (s.setLag x).meter = s.meter := rfl
@[simp] theorem State.setLag_levels (s : State) (x : Lag) : (s.setLag x).levels = s.levels := rfl
@[simp] theorem State.setLag_ports (s : State) (x : Lag) : (s.setLag x).ports = s.ports := rfl
@[simp] theorem State.setLag_modes (s : State) (x : Lag) : (s.setLag x).modes = s.modes := rfl
@[simp] theorem State.setLag_job (s : State) (x : Lag) : (s.setLag x).job = s.job := rfl
@[simp] theorem State.setLag_pending (s : State) (x : Lag) : (s.setLag x).pending = s.pending := rfl

/-! ### setLog -/

@[simp] theorem State.setLog_power (s : State) (x : StrataLog) : (s.setLog x).power = s.power := rfl
@[simp] theorem State.setLog_seconds (s : State) (x : StrataLog) : (s.setLog x).seconds = s.seconds := rfl
@[simp] theorem State.setLog_storeBlank (s : State) (x : StrataLog) : (s.setLog x).storeBlank = s.storeBlank := rfl
@[simp] theorem State.setLog_rack (s : State) (x : StrataLog) : (s.setLog x).rack = s.rack := rfl
@[simp] theorem State.setLog_tally (s : State) (x : StrataLog) : (s.setLog x).tally = s.tally := rfl
@[simp] theorem State.setLog_depth (s : State) (x : StrataLog) : (s.setLog x).depth = s.depth := rfl
@[simp] theorem State.setLog_circ (s : State) (x : StrataLog) : (s.setLog x).circ = s.circ := rfl
@[simp] theorem State.setLog_lag (s : State) (x : StrataLog) : (s.setLog x).lag = s.lag := rfl
@[simp] theorem State.setLog_log (s : State) (x : StrataLog) : (s.setLog x).log = x := rfl
@[simp] theorem State.setLog_meter (s : State) (x : StrataLog) : (s.setLog x).meter = s.meter := rfl
@[simp] theorem State.setLog_levels (s : State) (x : StrataLog) : (s.setLog x).levels = s.levels := rfl
@[simp] theorem State.setLog_ports (s : State) (x : StrataLog) : (s.setLog x).ports = s.ports := rfl
@[simp] theorem State.setLog_modes (s : State) (x : StrataLog) : (s.setLog x).modes = s.modes := rfl
@[simp] theorem State.setLog_job (s : State) (x : StrataLog) : (s.setLog x).job = s.job := rfl
@[simp] theorem State.setLog_pending (s : State) (x : StrataLog) : (s.setLog x).pending = s.pending := rfl

/-! ### setMeter -/

@[simp] theorem State.setMeter_power (s : State) (x : Meter) : (s.setMeter x).power = s.power := rfl
@[simp] theorem State.setMeter_seconds (s : State) (x : Meter) : (s.setMeter x).seconds = s.seconds := rfl
@[simp] theorem State.setMeter_storeBlank (s : State) (x : Meter) : (s.setMeter x).storeBlank = s.storeBlank := rfl
@[simp] theorem State.setMeter_rack (s : State) (x : Meter) : (s.setMeter x).rack = s.rack := rfl
@[simp] theorem State.setMeter_tally (s : State) (x : Meter) : (s.setMeter x).tally = s.tally := rfl
@[simp] theorem State.setMeter_depth (s : State) (x : Meter) : (s.setMeter x).depth = s.depth := rfl
@[simp] theorem State.setMeter_circ (s : State) (x : Meter) : (s.setMeter x).circ = s.circ := rfl
@[simp] theorem State.setMeter_lag (s : State) (x : Meter) : (s.setMeter x).lag = s.lag := rfl
@[simp] theorem State.setMeter_log (s : State) (x : Meter) : (s.setMeter x).log = s.log := rfl
@[simp] theorem State.setMeter_meter (s : State) (x : Meter) : (s.setMeter x).meter = x := rfl
@[simp] theorem State.setMeter_levels (s : State) (x : Meter) : (s.setMeter x).levels = s.levels := rfl
@[simp] theorem State.setMeter_ports (s : State) (x : Meter) : (s.setMeter x).ports = s.ports := rfl
@[simp] theorem State.setMeter_modes (s : State) (x : Meter) : (s.setMeter x).modes = s.modes := rfl
@[simp] theorem State.setMeter_job (s : State) (x : Meter) : (s.setMeter x).job = s.job := rfl
@[simp] theorem State.setMeter_pending (s : State) (x : Meter) : (s.setMeter x).pending = s.pending := rfl

/-! ### setLevels -/

@[simp] theorem State.setLevels_power (s : State) (x : List Nat) : (s.setLevels x).power = s.power := rfl
@[simp] theorem State.setLevels_seconds (s : State) (x : List Nat) : (s.setLevels x).seconds = s.seconds := rfl
@[simp] theorem State.setLevels_storeBlank (s : State) (x : List Nat) : (s.setLevels x).storeBlank = s.storeBlank := rfl
@[simp] theorem State.setLevels_rack (s : State) (x : List Nat) : (s.setLevels x).rack = s.rack := rfl
@[simp] theorem State.setLevels_tally (s : State) (x : List Nat) : (s.setLevels x).tally = s.tally := rfl
@[simp] theorem State.setLevels_depth (s : State) (x : List Nat) : (s.setLevels x).depth = s.depth := rfl
@[simp] theorem State.setLevels_circ (s : State) (x : List Nat) : (s.setLevels x).circ = s.circ := rfl
@[simp] theorem State.setLevels_lag (s : State) (x : List Nat) : (s.setLevels x).lag = s.lag := rfl
@[simp] theorem State.setLevels_log (s : State) (x : List Nat) : (s.setLevels x).log = s.log := rfl
@[simp] theorem State.setLevels_meter (s : State) (x : List Nat) : (s.setLevels x).meter = s.meter := rfl
@[simp] theorem State.setLevels_levels (s : State) (x : List Nat) : (s.setLevels x).levels = x := rfl
@[simp] theorem State.setLevels_ports (s : State) (x : List Nat) : (s.setLevels x).ports = s.ports := rfl
@[simp] theorem State.setLevels_modes (s : State) (x : List Nat) : (s.setLevels x).modes = s.modes := rfl
@[simp] theorem State.setLevels_job (s : State) (x : List Nat) : (s.setLevels x).job = s.job := rfl
@[simp] theorem State.setLevels_pending (s : State) (x : List Nat) : (s.setLevels x).pending = s.pending := rfl

/-! ### setPorts -/

@[simp] theorem State.setPorts_power (s : State) (x : PerPort) : (s.setPorts x).power = s.power := rfl
@[simp] theorem State.setPorts_seconds (s : State) (x : PerPort) : (s.setPorts x).seconds = s.seconds := rfl
@[simp] theorem State.setPorts_storeBlank (s : State) (x : PerPort) : (s.setPorts x).storeBlank = s.storeBlank := rfl
@[simp] theorem State.setPorts_rack (s : State) (x : PerPort) : (s.setPorts x).rack = s.rack := rfl
@[simp] theorem State.setPorts_tally (s : State) (x : PerPort) : (s.setPorts x).tally = s.tally := rfl
@[simp] theorem State.setPorts_depth (s : State) (x : PerPort) : (s.setPorts x).depth = s.depth := rfl
@[simp] theorem State.setPorts_circ (s : State) (x : PerPort) : (s.setPorts x).circ = s.circ := rfl
@[simp] theorem State.setPorts_lag (s : State) (x : PerPort) : (s.setPorts x).lag = s.lag := rfl
@[simp] theorem State.setPorts_log (s : State) (x : PerPort) : (s.setPorts x).log = s.log := rfl
@[simp] theorem State.setPorts_meter (s : State) (x : PerPort) : (s.setPorts x).meter = s.meter := rfl
@[simp] theorem State.setPorts_levels (s : State) (x : PerPort) : (s.setPorts x).levels = s.levels := rfl
@[simp] theorem State.setPorts_ports (s : State) (x : PerPort) : (s.setPorts x).ports = x := rfl
@[simp] theorem State.setPorts_modes (s : State) (x : PerPort) : (s.setPorts x).modes = s.modes := rfl
@[simp] theorem State.setPorts_job (s : State) (x : PerPort) : (s.setPorts x).job = s.job := rfl
@[simp] theorem State.setPorts_pending (s : State) (x : PerPort) : (s.setPorts x).pending = s.pending := rfl

/-! ### setModes -/

@[simp] theorem State.setModes_power (s : State) (x : Modes) : (s.setModes x).power = s.power := rfl
@[simp] theorem State.setModes_seconds (s : State) (x : Modes) : (s.setModes x).seconds = s.seconds := rfl
@[simp] theorem State.setModes_storeBlank (s : State) (x : Modes) : (s.setModes x).storeBlank = s.storeBlank := rfl
@[simp] theorem State.setModes_rack (s : State) (x : Modes) : (s.setModes x).rack = s.rack := rfl
@[simp] theorem State.setModes_tally (s : State) (x : Modes) : (s.setModes x).tally = s.tally := rfl
@[simp] theorem State.setModes_depth (s : State) (x : Modes) : (s.setModes x).depth = s.depth := rfl
@[simp] theorem State.setModes_circ (s : State) (x : Modes) : (s.setModes x).circ = s.circ := rfl
@[simp] theorem State.setModes_lag (s : State) (x : Modes) : (s.setModes x).lag = s.lag := rfl
@[simp] theorem State.setModes_log (s : State) (x : Modes) : (s.setModes x).log = s.log := rfl
@[simp] theorem State.setModes_meter (s : State) (x : Modes) : (s.setModes x).meter = s.meter := rfl
@[simp] theorem State.setModes_levels (s : State) (x : Modes) : (s.setModes x).levels = s.levels := rfl
@[simp] theorem State.setModes_ports (s : State) (x : Modes) : (s.setModes x).ports = s.ports := rfl
@[simp] theorem State.setModes_modes (s : State) (x : Modes) : (s.setModes x).modes = x := rfl
@[simp] theorem State.setModes_job (s : State) (x : Modes) : (s.setModes x).job = s.job := rfl
@[simp] theorem State.setModes_pending (s : State) (x : Modes) : (s.setModes x).pending = s.pending := rfl

/-! ### setJob -/

@[simp] theorem State.setJob_power (s : State) (x : Job) : (s.setJob x).power = s.power := rfl
@[simp] theorem State.setJob_seconds (s : State) (x : Job) : (s.setJob x).seconds = s.seconds := rfl
@[simp] theorem State.setJob_storeBlank (s : State) (x : Job) : (s.setJob x).storeBlank = s.storeBlank := rfl
@[simp] theorem State.setJob_rack (s : State) (x : Job) : (s.setJob x).rack = s.rack := rfl
@[simp] theorem State.setJob_tally (s : State) (x : Job) : (s.setJob x).tally = s.tally := rfl
@[simp] theorem State.setJob_depth (s : State) (x : Job) : (s.setJob x).depth = s.depth := rfl
@[simp] theorem State.setJob_circ (s : State) (x : Job) : (s.setJob x).circ = s.circ := rfl
@[simp] theorem State.setJob_lag (s : State) (x : Job) : (s.setJob x).lag = s.lag := rfl
@[simp] theorem State.setJob_log (s : State) (x : Job) : (s.setJob x).log = s.log := rfl
@[simp] theorem State.setJob_meter (s : State) (x : Job) : (s.setJob x).meter = s.meter := rfl
@[simp] theorem State.setJob_levels (s : State) (x : Job) : (s.setJob x).levels = s.levels := rfl
@[simp] theorem State.setJob_ports (s : State) (x : Job) : (s.setJob x).ports = s.ports := rfl
@[simp] theorem State.setJob_modes (s : State) (x : Job) : (s.setJob x).modes = s.modes := rfl
@[simp] theorem State.setJob_job (s : State) (x : Job) : (s.setJob x).job = x := rfl
@[simp] theorem State.setJob_pending (s : State) (x : Job) : (s.setJob x).pending = s.pending := rfl

/-! ### setPending -/

@[simp] theorem State.setPending_power (s : State) (x : List Instr) : (s.setPending x).power = s.power := rfl
@[simp] theorem State.setPending_seconds (s : State) (x : List Instr) : (s.setPending x).seconds = s.seconds := rfl
@[simp] theorem State.setPending_storeBlank (s : State) (x : List Instr) : (s.setPending x).storeBlank = s.storeBlank := rfl
@[simp] theorem State.setPending_rack (s : State) (x : List Instr) : (s.setPending x).rack = s.rack := rfl
@[simp] theorem State.setPending_tally (s : State) (x : List Instr) : (s.setPending x).tally = s.tally := rfl
@[simp] theorem State.setPending_depth (s : State) (x : List Instr) : (s.setPending x).depth = s.depth := rfl
@[simp] theorem State.setPending_circ (s : State) (x : List Instr) : (s.setPending x).circ = s.circ := rfl
@[simp] theorem State.setPending_lag (s : State) (x : List Instr) : (s.setPending x).lag = s.lag := rfl
@[simp] theorem State.setPending_log (s : State) (x : List Instr) : (s.setPending x).log = s.log := rfl
@[simp] theorem State.setPending_meter (s : State) (x : List Instr) : (s.setPending x).meter = s.meter := rfl
@[simp] theorem State.setPending_levels (s : State) (x : List Instr) : (s.setPending x).levels = s.levels := rfl
@[simp] theorem State.setPending_ports (s : State) (x : List Instr) : (s.setPending x).ports = s.ports := rfl
@[simp] theorem State.setPending_modes (s : State) (x : List Instr) : (s.setPending x).modes = s.modes := rfl
@[simp] theorem State.setPending_job (s : State) (x : List Instr) : (s.setPending x).job = s.job := rfl
@[simp] theorem State.setPending_pending (s : State) (x : List Instr) : (s.setPending x).pending = x := rfl

/-! ### Ports -/

@[simp] theorem PerPort.get_set_self (ps : PerPort) (p : Port) (x : PortState) : (ps.set p x).get p = x := by
  cases p <;> rfl

theorem PerPort.get_set_of_ne (ps : PerPort) (x : PortState) (p q : Port) (h : p ≠ q) :
    (ps.set p x).get q = ps.get q := by
  cases p <;> cases q <;> first | rfl | exact absurd rfl h

/-- Two states are equal when each field is. -/
theorem State.ext_fields (s t : State) (h1 : s.power = t.power) (h2 : s.seconds = t.seconds)
    (h3 : s.storeBlank = t.storeBlank) (h4 : s.rack = t.rack) (h5 : s.tally = t.tally) (h6 : s.depth = t.depth)
    (h7 : s.circ = t.circ) (h8 : s.lag = t.lag) (h9 : s.log = t.log) (h10 : s.meter = t.meter)
    (h11 : s.levels = t.levels) (h12 : s.ports = t.ports) (h13 : s.modes = t.modes) (h14 : s.job = t.job)
    (h15 : s.pending = t.pending) : s = t := by
  cases s; cases t; simp_all

end Sys2Proof.Machine
end

