-- ==== Sys2Proof/Laws/Ops.lean ====
section
/-! SUPPORT. Laws/Ops.lean: what the shared operations of Machine/Ops.lean and Machine/MeterOps.lean leave alone. One lemma for each
operation; simp takes each conjunct as a rule. -/

namespace Sys2Proof.Machine

@[simp] theorem raise_frame (k : NoticeKind) (a b : Nat) (s : State) :
    (raise k a b s).power = s.power ∧ (raise k a b s).seconds = s.seconds ∧
    (raise k a b s).storeBlank = s.storeBlank ∧ (raise k a b s).rack = s.rack ∧ (raise k a b s).tally = s.tally ∧
    (raise k a b s).depth = s.depth ∧ (raise k a b s).circ = s.circ ∧ (raise k a b s).lag = s.lag ∧
    (raise k a b s).log = s.log ∧ (raise k a b s).meter = s.meter ∧ (raise k a b s).levels = s.levels ∧
    (raise k a b s).modes = s.modes ∧ (raise k a b s).job = s.job ∧ (raise k a b s).pending = s.pending := by
  and_intros <;> rfl

@[simp] theorem raiseIf_frame (c : Bool) (k : NoticeKind) (a b : Nat) (s : State) :
    (raiseIf c k a b s).power = s.power ∧ (raiseIf c k a b s).seconds = s.seconds ∧
    (raiseIf c k a b s).storeBlank = s.storeBlank ∧ (raiseIf c k a b s).rack = s.rack ∧
    (raiseIf c k a b s).tally = s.tally ∧ (raiseIf c k a b s).depth = s.depth ∧ (raiseIf c k a b s).circ = s.circ ∧
    (raiseIf c k a b s).lag = s.lag ∧ (raiseIf c k a b s).log = s.log ∧ (raiseIf c k a b s).meter = s.meter ∧
    (raiseIf c k a b s).levels = s.levels ∧ (raiseIf c k a b s).modes = s.modes ∧ (raiseIf c k a b s).job = s.job ∧
    (raiseIf c k a b s).pending = s.pending := by
  unfold raiseIf; split <;> simp

@[simp] theorem placeReply_frame (p : Port) (n : Nat) (c : ReplyCode) (bs : List Byte) (s : State) :
    (placeReply p n c bs s).power = s.power ∧ (placeReply p n c bs s).seconds = s.seconds ∧
    (placeReply p n c bs s).storeBlank = s.storeBlank ∧ (placeReply p n c bs s).rack = s.rack ∧
    (placeReply p n c bs s).tally = s.tally ∧ (placeReply p n c bs s).depth = s.depth ∧
    (placeReply p n c bs s).circ = s.circ ∧ (placeReply p n c bs s).lag = s.lag ∧
    (placeReply p n c bs s).log = s.log ∧ (placeReply p n c bs s).meter = s.meter ∧
    (placeReply p n c bs s).levels = s.levels ∧ (placeReply p n c bs s).modes = s.modes ∧
    (placeReply p n c bs s).job = s.job ∧ (placeReply p n c bs s).pending = s.pending := by
  and_intros <;> rfl

@[simp] theorem shiftZeros_frame (p : Port) (s : State) :
    (shiftZeros p s).power = s.power ∧ (shiftZeros p s).seconds = s.seconds ∧
    (shiftZeros p s).storeBlank = s.storeBlank ∧ (shiftZeros p s).rack = s.rack ∧
    (shiftZeros p s).tally = s.tally ∧ (shiftZeros p s).depth = s.depth ∧
    (shiftZeros p s).circ = s.circ ∧ (shiftZeros p s).lag = s.lag ∧
    (shiftZeros p s).log = s.log ∧ (shiftZeros p s).meter = s.meter ∧
    (shiftZeros p s).levels = s.levels ∧ (shiftZeros p s).modes = s.modes ∧
    (shiftZeros p s).job = s.job ∧ (shiftZeros p s).pending = s.pending := by
  and_intros <;> rfl

@[simp] theorem drivePermits_frame (s : State) :
    (drivePermits s).power = s.power ∧ (drivePermits s).seconds = s.seconds ∧
    (drivePermits s).storeBlank = s.storeBlank ∧ (drivePermits s).rack = s.rack ∧ (drivePermits s).depth = s.depth ∧
    (drivePermits s).circ = s.circ ∧ (drivePermits s).lag = s.lag ∧ (drivePermits s).log = s.log ∧
    (drivePermits s).meter = s.meter ∧ (drivePermits s).levels = s.levels ∧ (drivePermits s).ports = s.ports ∧
    (drivePermits s).modes = s.modes ∧ (drivePermits s).job = s.job ∧ (drivePermits s).pending = s.pending := by
  and_intros <;> rfl

@[simp] theorem withdrawPermits_frame (s : State) :
    (withdrawPermits s).power = s.power ∧ (withdrawPermits s).seconds = s.seconds ∧
    (withdrawPermits s).storeBlank = s.storeBlank ∧ (withdrawPermits s).rack = s.rack ∧
    (withdrawPermits s).depth = s.depth ∧ (withdrawPermits s).circ = s.circ ∧ (withdrawPermits s).lag = s.lag ∧
    (withdrawPermits s).log = s.log ∧ (withdrawPermits s).meter = s.meter ∧ (withdrawPermits s).levels = s.levels ∧
    (withdrawPermits s).ports = s.ports ∧ (withdrawPermits s).modes = s.modes ∧ (withdrawPermits s).job = s.job ∧
    (withdrawPermits s).pending = s.pending := by
  and_intros <;> rfl

@[simp] theorem sensePermits_frame (pins : SensePins) (s : State) :
    (sensePermits pins s).power = s.power ∧ (sensePermits pins s).seconds = s.seconds ∧
    (sensePermits pins s).storeBlank = s.storeBlank ∧ (sensePermits pins s).rack = s.rack ∧
    (sensePermits pins s).depth = s.depth ∧ (sensePermits pins s).circ = s.circ ∧ (sensePermits pins s).lag = s.lag ∧
    (sensePermits pins s).log = s.log ∧ (sensePermits pins s).meter = s.meter ∧
    (sensePermits pins s).levels = s.levels ∧ (sensePermits pins s).ports = s.ports ∧
    (sensePermits pins s).modes = s.modes ∧ (sensePermits pins s).job = s.job ∧
    (sensePermits pins s).pending = s.pending := by
  and_intros <;> rfl

@[simp] theorem countRods_frame (serials : List Nat) (f : Rod → Rod) (s : State) :
    (countRods serials f s).power = s.power ∧ (countRods serials f s).seconds = s.seconds ∧
    (countRods serials f s).storeBlank = s.storeBlank ∧ (countRods serials f s).tally = s.tally ∧
    (countRods serials f s).depth = s.depth ∧ (countRods serials f s).circ = s.circ ∧
    (countRods serials f s).lag = s.lag ∧ (countRods serials f s).log = s.log ∧
    (countRods serials f s).meter = s.meter ∧ (countRods serials f s).levels = s.levels ∧
    (countRods serials f s).ports = s.ports ∧ (countRods serials f s).modes = s.modes ∧
    (countRods serials f s).job = s.job ∧ (countRods serials f s).pending = s.pending := by
  and_intros <;> rfl

@[simp] theorem wearCheck_frame (serial : Nat) (s : State) :
    (wearCheck serial s).power = s.power ∧ (wearCheck serial s).seconds = s.seconds ∧
    (wearCheck serial s).storeBlank = s.storeBlank ∧ (wearCheck serial s).tally = s.tally ∧
    (wearCheck serial s).depth = s.depth ∧ (wearCheck serial s).circ = s.circ ∧ (wearCheck serial s).lag = s.lag ∧
    (wearCheck serial s).log = s.log ∧ (wearCheck serial s).meter = s.meter ∧
    (wearCheck serial s).levels = s.levels ∧ (wearCheck serial s).modes = s.modes ∧
    (wearCheck serial s).job = s.job ∧ (wearCheck serial s).pending = s.pending := by
  unfold wearCheck; split
  · split <;> simp
  · simp

@[simp] theorem wearChecks_frame (serials : List Nat) (s : State) :
    (wearChecks serials s).power = s.power ∧ (wearChecks serials s).seconds = s.seconds ∧
    (wearChecks serials s).storeBlank = s.storeBlank ∧ (wearChecks serials s).tally = s.tally ∧
    (wearChecks serials s).depth = s.depth ∧ (wearChecks serials s).circ = s.circ ∧
    (wearChecks serials s).lag = s.lag ∧ (wearChecks serials s).log = s.log ∧
    (wearChecks serials s).meter = s.meter ∧ (wearChecks serials s).levels = s.levels ∧
    (wearChecks serials s).modes = s.modes ∧ (wearChecks serials s).job = s.job ∧
    (wearChecks serials s).pending = s.pending := by
  unfold wearChecks
  induction serials generalizing s with
  | nil => simp
  | cons x xs ih => simp [ih]

@[simp] theorem updateOpenLine_frame (k : LineKey) (f : Line → Line) (s : State) :
    (updateOpenLine k f s).power = s.power ∧ (updateOpenLine k f s).seconds = s.seconds ∧
    (updateOpenLine k f s).storeBlank = s.storeBlank ∧ (updateOpenLine k f s).rack = s.rack ∧
    (updateOpenLine k f s).tally = s.tally ∧ (updateOpenLine k f s).depth = s.depth ∧
    (updateOpenLine k f s).circ = s.circ ∧ (updateOpenLine k f s).lag = s.lag ∧ (updateOpenLine k f s).log = s.log ∧
    (updateOpenLine k f s).levels = s.levels ∧ (updateOpenLine k f s).ports = s.ports ∧
    (updateOpenLine k f s).modes = s.modes ∧ (updateOpenLine k f s).job = s.job ∧
    (updateOpenLine k f s).pending = s.pending := by
  unfold updateOpenLine; split <;> simp

@[simp] theorem updateTotals_frame (f : Totals → Totals) (s : State) :
    (updateTotals f s).power = s.power ∧ (updateTotals f s).seconds = s.seconds ∧
    (updateTotals f s).storeBlank = s.storeBlank ∧ (updateTotals f s).rack = s.rack ∧
    (updateTotals f s).tally = s.tally ∧ (updateTotals f s).depth = s.depth ∧ (updateTotals f s).circ = s.circ ∧
    (updateTotals f s).lag = s.lag ∧ (updateTotals f s).log = s.log ∧ (updateTotals f s).levels = s.levels ∧
    (updateTotals f s).ports = s.ports ∧ (updateTotals f s).modes = s.modes ∧ (updateTotals f s).job = s.job ∧
    (updateTotals f s).pending = s.pending := by
  and_intros <;> rfl

@[simp] theorem accruePiece_frame (b : Band) (piece : Nat × Nat) (s : State) :
    (accruePiece b piece s).power = s.power ∧ (accruePiece b piece s).seconds = s.seconds ∧
    (accruePiece b piece s).storeBlank = s.storeBlank ∧ (accruePiece b piece s).rack = s.rack ∧
    (accruePiece b piece s).tally = s.tally ∧ (accruePiece b piece s).depth = s.depth ∧
    (accruePiece b piece s).circ = s.circ ∧ (accruePiece b piece s).lag = s.lag ∧
    (accruePiece b piece s).log = s.log ∧ (accruePiece b piece s).levels = s.levels ∧
    (accruePiece b piece s).ports = s.ports ∧ (accruePiece b piece s).modes = s.modes ∧
    (accruePiece b piece s).job = s.job ∧ (accruePiece b piece s).pending = s.pending := by
  simp [accruePiece]

@[simp] theorem accrueFootage_frame (band : Band) (a b : Nat) (s : State) :
    (accrueFootage band a b s).power = s.power ∧ (accrueFootage band a b s).seconds = s.seconds ∧
    (accrueFootage band a b s).storeBlank = s.storeBlank ∧ (accrueFootage band a b s).rack = s.rack ∧
    (accrueFootage band a b s).tally = s.tally ∧ (accrueFootage band a b s).depth = s.depth ∧
    (accrueFootage band a b s).circ = s.circ ∧ (accrueFootage band a b s).lag = s.lag ∧
    (accrueFootage band a b s).log = s.log ∧ (accrueFootage band a b s).levels = s.levels ∧
    (accrueFootage band a b s).ports = s.ports ∧ (accrueFootage band a b s).modes = s.modes ∧
    (accrueFootage band a b s).job = s.job ∧ (accrueFootage band a b s).pending = s.pending := by
  unfold accrueFootage
  induction tierPieces a b generalizing s with
  | nil => simp
  | cons x xs ih => simp [ih]

@[simp] theorem creditSecond_frame (s : State) :
    (creditSecond s).power = s.power ∧ (creditSecond s).seconds = s.seconds ∧
    (creditSecond s).storeBlank = s.storeBlank ∧ (creditSecond s).rack = s.rack ∧ (creditSecond s).tally = s.tally ∧
    (creditSecond s).depth = s.depth ∧ (creditSecond s).circ = s.circ ∧ (creditSecond s).lag = s.lag ∧
    (creditSecond s).log = s.log ∧ (creditSecond s).levels = s.levels ∧ (creditSecond s).ports = s.ports ∧
    (creditSecond s).modes = s.modes ∧ (creditSecond s).job = s.job ∧ (creditSecond s).pending = s.pending := by
  simp [creditSecond]

@[simp] theorem accrueAdditive_frame (item units : Nat) (s : State) :
    (accrueAdditive item units s).power = s.power ∧ (accrueAdditive item units s).seconds = s.seconds ∧
    (accrueAdditive item units s).storeBlank = s.storeBlank ∧ (accrueAdditive item units s).rack = s.rack ∧
    (accrueAdditive item units s).tally = s.tally ∧ (accrueAdditive item units s).depth = s.depth ∧
    (accrueAdditive item units s).circ = s.circ ∧ (accrueAdditive item units s).lag = s.lag ∧
    (accrueAdditive item units s).log = s.log ∧ (accrueAdditive item units s).levels = s.levels ∧
    (accrueAdditive item units s).ports = s.ports ∧ (accrueAdditive item units s).modes = s.modes ∧
    (accrueAdditive item units s).job = s.job ∧ (accrueAdditive item units s).pending = s.pending := by
  simp [accrueAdditive]

@[simp] theorem closeOpenTicket_frame (reference : Nat) (reopen : Bool) (s : State) :
    (closeOpenTicket reference reopen s).power = s.power ∧ (closeOpenTicket reference reopen s).seconds = s.seconds ∧
    (closeOpenTicket reference reopen s).storeBlank = s.storeBlank ∧
    (closeOpenTicket reference reopen s).rack = s.rack ∧ (closeOpenTicket reference reopen s).tally = s.tally ∧
    (closeOpenTicket reference reopen s).depth = s.depth ∧ (closeOpenTicket reference reopen s).circ = s.circ ∧
    (closeOpenTicket reference reopen s).lag = s.lag ∧ (closeOpenTicket reference reopen s).log = s.log ∧
    (closeOpenTicket reference reopen s).levels = s.levels ∧ (closeOpenTicket reference reopen s).modes = s.modes ∧
    (closeOpenTicket reference reopen s).job = s.job ∧ (closeOpenTicket reference reopen s).pending = s.pending := by
  unfold closeOpenTicket; split
  · split <;> simp
  · simp

@[simp] theorem postAdjustment_frame (old new : Band) (a b : Nat) (s : State) :
    (postAdjustment old new a b s).power = s.power ∧ (postAdjustment old new a b s).seconds = s.seconds ∧
    (postAdjustment old new a b s).storeBlank = s.storeBlank ∧ (postAdjustment old new a b s).rack = s.rack ∧
    (postAdjustment old new a b s).tally = s.tally ∧ (postAdjustment old new a b s).depth = s.depth ∧
    (postAdjustment old new a b s).circ = s.circ ∧ (postAdjustment old new a b s).lag = s.lag ∧
    (postAdjustment old new a b s).log = s.log ∧ (postAdjustment old new a b s).levels = s.levels ∧
    (postAdjustment old new a b s).ports = s.ports ∧ (postAdjustment old new a b s).modes = s.modes ∧
    (postAdjustment old new a b s).job = s.job ∧ (postAdjustment old new a b s).pending = s.pending := by
  unfold postAdjustment; split <;> simp

@[simp] theorem moveFootage_frame (old new : Band) (piece : Nat × Nat) (s : State) :
    (moveFootage old new piece s).power = s.power ∧ (moveFootage old new piece s).seconds = s.seconds ∧
    (moveFootage old new piece s).storeBlank = s.storeBlank ∧ (moveFootage old new piece s).rack = s.rack ∧
    (moveFootage old new piece s).tally = s.tally ∧ (moveFootage old new piece s).depth = s.depth ∧
    (moveFootage old new piece s).circ = s.circ ∧ (moveFootage old new piece s).lag = s.lag ∧
    (moveFootage old new piece s).log = s.log ∧ (moveFootage old new piece s).levels = s.levels ∧
    (moveFootage old new piece s).ports = s.ports ∧ (moveFootage old new piece s).modes = s.modes ∧
    (moveFootage old new piece s).job = s.job ∧ (moveFootage old new piece s).pending = s.pending := by
  simp [moveFootage]

@[simp] theorem moveTotals_frame (old new : Band) (piece : Nat × Nat) (s : State) :
    (moveTotals old new piece s).power = s.power ∧ (moveTotals old new piece s).seconds = s.seconds ∧
    (moveTotals old new piece s).storeBlank = s.storeBlank ∧ (moveTotals old new piece s).rack = s.rack ∧
    (moveTotals old new piece s).tally = s.tally ∧ (moveTotals old new piece s).depth = s.depth ∧
    (moveTotals old new piece s).circ = s.circ ∧ (moveTotals old new piece s).lag = s.lag ∧
    (moveTotals old new piece s).log = s.log ∧ (moveTotals old new piece s).levels = s.levels ∧
    (moveTotals old new piece s).ports = s.ports ∧ (moveTotals old new piece s).modes = s.modes ∧
    (moveTotals old new piece s).job = s.job ∧ (moveTotals old new piece s).pending = s.pending := by
  simp [moveTotals]

/-- Work over the tiers that leaves a field alone at each tier leaves it alone altogether. -/
theorem foldl_keeps {α β : Type} (get : State → β) (f : State → α → State) (h : ∀ s x, get (f s x) = get s) (xs : List α)
    (s : State) : get (xs.foldl f s) = get s := by
  induction xs generalizing s with
  | nil => rfl
  | cons x xs ih => simp [ih, h]

@[simp] theorem reband_frame (top bottom : Nat) (old new : Band) (s : State) :
    (reband top bottom old new s).power = s.power ∧ (reband top bottom old new s).seconds = s.seconds ∧
    (reband top bottom old new s).storeBlank = s.storeBlank ∧ (reband top bottom old new s).rack = s.rack ∧
    (reband top bottom old new s).tally = s.tally ∧ (reband top bottom old new s).depth = s.depth ∧
    (reband top bottom old new s).circ = s.circ ∧ (reband top bottom old new s).lag = s.lag ∧
    (reband top bottom old new s).log = s.log ∧ (reband top bottom old new s).levels = s.levels ∧
    (reband top bottom old new s).ports = s.ports ∧ (reband top bottom old new s).modes = s.modes ∧
    (reband top bottom old new s).job = s.job ∧ (reband top bottom old new s).pending = s.pending := by
  unfold reband
  and_intros <;>
    exact (foldl_keeps _ _ (by intros; simp) _ _).trans ((foldl_keeps _ _ (by intros; simp) _ _).trans (by simp))

end Sys2Proof.Machine
end

