-- ==== Sys2Proof/Laws/Blocks.lean ====
section
/-! SUPPORT. Laws/Blocks.lean: what the shared operations of the strata log and the lag unit leave alone. One lemma for each
operation; simp takes each conjunct as a rule. -/

namespace Sys2Proof.Machine

@[simp] theorem postBand_frame (n : Nat) (s : State) :
    (postBand n s).power = s.power ∧ (postBand n s).seconds = s.seconds ∧ (postBand n s).storeBlank = s.storeBlank ∧
    (postBand n s).rack = s.rack ∧ (postBand n s).tally = s.tally ∧ (postBand n s).depth = s.depth ∧
    (postBand n s).circ = s.circ ∧ (postBand n s).lag = s.lag ∧ (postBand n s).levels = s.levels ∧
    (postBand n s).ports = s.ports ∧ (postBand n s).modes = s.modes ∧ (postBand n s).job = s.job ∧
    (postBand n s).pending = s.pending := by
  unfold postBand; simp only; split <;> simp

@[simp] theorem postUnclassified_frame (s : State) :
    (postUnclassified s).power = s.power ∧ (postUnclassified s).seconds = s.seconds ∧
    (postUnclassified s).storeBlank = s.storeBlank ∧ (postUnclassified s).rack = s.rack ∧
    (postUnclassified s).tally = s.tally ∧ (postUnclassified s).depth = s.depth ∧
    (postUnclassified s).circ = s.circ ∧ (postUnclassified s).lag = s.lag ∧ (postUnclassified s).levels = s.levels ∧
    (postUnclassified s).ports = s.ports ∧ (postUnclassified s).modes = s.modes ∧ (postUnclassified s).job = s.job ∧
    (postUnclassified s).pending = s.pending := by
  unfold postUnclassified
  and_intros <;> exact foldl_keeps _ _ (by intros; split <;> simp) _ _

@[simp] theorem registerSample_frame (number origin : Nat) (status : SampleStatus) (caught : Bool) (s : State) :
    (registerSample number origin status caught s).power = s.power ∧
    (registerSample number origin status caught s).seconds = s.seconds ∧
    (registerSample number origin status caught s).storeBlank = s.storeBlank ∧
    (registerSample number origin status caught s).rack = s.rack ∧
    (registerSample number origin status caught s).tally = s.tally ∧
    (registerSample number origin status caught s).depth = s.depth ∧
    (registerSample number origin status caught s).circ = s.circ ∧
    (registerSample number origin status caught s).lag = s.lag ∧
    (registerSample number origin status caught s).meter = s.meter ∧
    (registerSample number origin status caught s).levels = s.levels ∧
    (registerSample number origin status caught s).ports = s.ports ∧
    (registerSample number origin status caught s).modes = s.modes ∧
    (registerSample number origin status caught s).job = s.job ∧
    (registerSample number origin status caught s).pending = s.pending := by
  and_intros <;> rfl

@[simp] theorem breakInterval_frame (c : Candidate) (e seconds : Nat) (s : State) :
    (breakInterval c e seconds s).power = s.power ∧ (breakInterval c e seconds s).seconds = s.seconds ∧
    (breakInterval c e seconds s).storeBlank = s.storeBlank ∧ (breakInterval c e seconds s).rack = s.rack ∧
    (breakInterval c e seconds s).tally = s.tally ∧ (breakInterval c e seconds s).depth = s.depth ∧
    (breakInterval c e seconds s).circ = s.circ ∧ (breakInterval c e seconds s).lag = s.lag ∧
    (breakInterval c e seconds s).meter = s.meter ∧ (breakInterval c e seconds s).levels = s.levels ∧
    (breakInterval c e seconds s).modes = s.modes ∧ (breakInterval c e seconds s).job = s.job ∧
    (breakInterval c e seconds s).pending = s.pending := by
  and_intros <;> rfl

@[simp] theorem breakLogFull_frame (c : Candidate) (s : State) :
    (breakLogFull c s).power = s.power ∧ (breakLogFull c s).seconds = s.seconds ∧
    (breakLogFull c s).storeBlank = s.storeBlank ∧ (breakLogFull c s).rack = s.rack ∧
    (breakLogFull c s).tally = s.tally ∧ (breakLogFull c s).depth = s.depth ∧ (breakLogFull c s).circ = s.circ ∧
    (breakLogFull c s).lag = s.lag ∧ (breakLogFull c s).meter = s.meter ∧ (breakLogFull c s).levels = s.levels ∧
    (breakLogFull c s).modes = s.modes ∧ (breakLogFull c s).job = s.job ∧ (breakLogFull c s).pending = s.pending := by
  and_intros <;> rfl

@[simp] theorem judgeSegment_frame (top e seconds rate : Nat) (s : State) :
    (judgeSegment top e seconds rate s).power = s.power ∧ (judgeSegment top e seconds rate s).seconds = s.seconds ∧
    (judgeSegment top e seconds rate s).storeBlank = s.storeBlank ∧
    (judgeSegment top e seconds rate s).rack = s.rack ∧ (judgeSegment top e seconds rate s).tally = s.tally ∧
    (judgeSegment top e seconds rate s).depth = s.depth ∧ (judgeSegment top e seconds rate s).circ = s.circ ∧
    (judgeSegment top e seconds rate s).lag = s.lag ∧ (judgeSegment top e seconds rate s).meter = s.meter ∧
    (judgeSegment top e seconds rate s).levels = s.levels ∧ (judgeSegment top e seconds rate s).modes = s.modes ∧
    (judgeSegment top e seconds rate s).job = s.job ∧ (judgeSegment top e seconds rate s).pending = s.pending := by
  unfold judgeSegment; simp only
  repeat' split
  all_goals simp

@[simp] theorem completeSegment_frame (e : Nat) (s : State) :
    (completeSegment e s).power = s.power ∧ (completeSegment e s).seconds = s.seconds ∧
    (completeSegment e s).storeBlank = s.storeBlank ∧ (completeSegment e s).rack = s.rack ∧
    (completeSegment e s).tally = s.tally ∧ (completeSegment e s).depth = s.depth ∧
    (completeSegment e s).circ = s.circ ∧ (completeSegment e s).lag = s.lag ∧ (completeSegment e s).meter = s.meter ∧
    (completeSegment e s).levels = s.levels ∧ (completeSegment e s).modes = s.modes ∧
    (completeSegment e s).job = s.job ∧ (completeSegment e s).pending = s.pending := by
  unfold completeSegment; simp only; split <;> simp

@[simp] theorem addDrilled_frame (mm : Nat) (s : State) :
    (addDrilled mm s).power = s.power ∧ (addDrilled mm s).seconds = s.seconds ∧
    (addDrilled mm s).storeBlank = s.storeBlank ∧ (addDrilled mm s).rack = s.rack ∧
    (addDrilled mm s).tally = s.tally ∧ (addDrilled mm s).depth = s.depth ∧ (addDrilled mm s).circ = s.circ ∧
    (addDrilled mm s).lag = s.lag ∧ (addDrilled mm s).meter = s.meter ∧ (addDrilled mm s).levels = s.levels ∧
    (addDrilled mm s).ports = s.ports ∧ (addDrilled mm s).modes = s.modes ∧ (addDrilled mm s).job = s.job ∧
    (addDrilled mm s).pending = s.pending := by
  and_intros <;> rfl

@[simp] theorem logIncrement_frame (a b : Nat) (ends : List Nat) (s : State) :
    (logIncrement a b ends s).power = s.power ∧ (logIncrement a b ends s).seconds = s.seconds ∧
    (logIncrement a b ends s).storeBlank = s.storeBlank ∧ (logIncrement a b ends s).rack = s.rack ∧
    (logIncrement a b ends s).tally = s.tally ∧ (logIncrement a b ends s).depth = s.depth ∧
    (logIncrement a b ends s).circ = s.circ ∧ (logIncrement a b ends s).lag = s.lag ∧
    (logIncrement a b ends s).meter = s.meter ∧ (logIncrement a b ends s).levels = s.levels ∧
    (logIncrement a b ends s).modes = s.modes ∧ (logIncrement a b ends s).job = s.job ∧
    (logIncrement a b ends s).pending = s.pending := by
  induction ends generalizing a s with
  | nil => simp [logIncrement]
  | cons e ends ih => simp [logIncrement, ih]

@[simp] theorem drillingSecond_frame (s : State) :
    (drillingSecond s).power = s.power ∧ (drillingSecond s).seconds = s.seconds ∧
    (drillingSecond s).storeBlank = s.storeBlank ∧ (drillingSecond s).rack = s.rack ∧
    (drillingSecond s).tally = s.tally ∧ (drillingSecond s).depth = s.depth ∧ (drillingSecond s).circ = s.circ ∧
    (drillingSecond s).lag = s.lag ∧ (drillingSecond s).meter = s.meter ∧ (drillingSecond s).levels = s.levels ∧
    (drillingSecond s).ports = s.ports ∧ (drillingSecond s).modes = s.modes ∧ (drillingSecond s).job = s.job ∧
    (drillingSecond s).pending = s.pending := by
  and_intros <;> rfl

@[simp] theorem chargeLoss_frame (v z : Nat) (s : State) :
    (chargeLoss v z s).power = s.power ∧ (chargeLoss v z s).seconds = s.seconds ∧
    (chargeLoss v z s).storeBlank = s.storeBlank ∧ (chargeLoss v z s).rack = s.rack ∧
    (chargeLoss v z s).tally = s.tally ∧ (chargeLoss v z s).depth = s.depth ∧ (chargeLoss v z s).circ = s.circ ∧
    (chargeLoss v z s).lag = s.lag ∧ (chargeLoss v z s).meter = s.meter ∧ (chargeLoss v z s).levels = s.levels ∧
    (chargeLoss v z s).ports = s.ports ∧ (chargeLoss v z s).modes = s.modes ∧ (chargeLoss v z s).job = s.job ∧
    (chargeLoss v z s).pending = s.pending := by
  and_intros <;> rfl

@[simp] theorem proposeStrike_frame (z : Nat) (s : State) :
    (proposeStrike z s).power = s.power ∧ (proposeStrike z s).seconds = s.seconds ∧
    (proposeStrike z s).storeBlank = s.storeBlank ∧ (proposeStrike z s).rack = s.rack ∧
    (proposeStrike z s).tally = s.tally ∧ (proposeStrike z s).depth = s.depth ∧ (proposeStrike z s).circ = s.circ ∧
    (proposeStrike z s).lag = s.lag ∧ (proposeStrike z s).meter = s.meter ∧ (proposeStrike z s).levels = s.levels ∧
    (proposeStrike z s).modes = s.modes ∧ (proposeStrike z s).job = s.job ∧
    (proposeStrike z s).pending = s.pending := by
  unfold proposeStrike; simp only; split <;> simp

@[simp] theorem logEnterSetup_frame (s : State) :
    (logEnterSetup s).power = s.power ∧ (logEnterSetup s).seconds = s.seconds ∧
    (logEnterSetup s).storeBlank = s.storeBlank ∧ (logEnterSetup s).rack = s.rack ∧
    (logEnterSetup s).tally = s.tally ∧ (logEnterSetup s).depth = s.depth ∧ (logEnterSetup s).circ = s.circ ∧
    (logEnterSetup s).lag = s.lag ∧ (logEnterSetup s).meter = s.meter ∧ (logEnterSetup s).levels = s.levels ∧
    (logEnterSetup s).ports = s.ports ∧ (logEnterSetup s).modes = s.modes ∧ (logEnterSetup s).job = s.job ∧
    (logEnterSetup s).pending = s.pending := by
  and_intros <;> rfl

@[simp] theorem issueSample_frame (annular : Option Nat) (mark : Nat) (s : State) :
    (issueSample annular s mark).power = s.power ∧ (issueSample annular s mark).seconds = s.seconds ∧
    (issueSample annular s mark).storeBlank = s.storeBlank ∧ (issueSample annular s mark).rack = s.rack ∧
    (issueSample annular s mark).tally = s.tally ∧ (issueSample annular s mark).depth = s.depth ∧
    (issueSample annular s mark).circ = s.circ ∧ (issueSample annular s mark).meter = s.meter ∧
    (issueSample annular s mark).levels = s.levels ∧ (issueSample annular s mark).modes = s.modes ∧
    (issueSample annular s mark).job = s.job ∧ (issueSample annular s mark).pending = s.pending := by
  unfold issueSample; simp only; split <;> simp

@[simp] theorem noteBelowProgram_frame (z : Nat) (s : State) :
    (noteBelowProgram z s).power = s.power ∧ (noteBelowProgram z s).seconds = s.seconds ∧
    (noteBelowProgram z s).storeBlank = s.storeBlank ∧ (noteBelowProgram z s).rack = s.rack ∧
    (noteBelowProgram z s).tally = s.tally ∧ (noteBelowProgram z s).depth = s.depth ∧
    (noteBelowProgram z s).circ = s.circ ∧ (noteBelowProgram z s).log = s.log ∧
    (noteBelowProgram z s).meter = s.meter ∧ (noteBelowProgram z s).levels = s.levels ∧
    (noteBelowProgram z s).modes = s.modes ∧ (noteBelowProgram z s).job = s.job ∧
    (noteBelowProgram z s).pending = s.pending := by
  unfold noteBelowProgram; split <;> simp

@[simp] theorem issueSamples_frame (a b : Nat) (s : State) :
    (issueSamples a b s).power = s.power ∧ (issueSamples a b s).seconds = s.seconds ∧
    (issueSamples a b s).storeBlank = s.storeBlank ∧ (issueSamples a b s).rack = s.rack ∧
    (issueSamples a b s).tally = s.tally ∧ (issueSamples a b s).depth = s.depth ∧
    (issueSamples a b s).circ = s.circ ∧ (issueSamples a b s).meter = s.meter ∧
    (issueSamples a b s).levels = s.levels ∧ (issueSamples a b s).modes = s.modes ∧
    (issueSamples a b s).job = s.job ∧ (issueSamples a b s).pending = s.pending := by
  unfold issueSamples; split
  · simp
  · and_intros <;> exact (foldl_keeps _ _ (by intros; simp) _ _).trans (by simp)

@[simp] theorem arrive_frame (e : LagEntry) (status : SampleStatus) (caught : Bool) (s : State) :
    (arrive e status caught s).power = s.power ∧ (arrive e status caught s).seconds = s.seconds ∧
    (arrive e status caught s).storeBlank = s.storeBlank ∧ (arrive e status caught s).rack = s.rack ∧
    (arrive e status caught s).tally = s.tally ∧ (arrive e status caught s).depth = s.depth ∧
    (arrive e status caught s).circ = s.circ ∧ (arrive e status caught s).lag = s.lag ∧
    (arrive e status caught s).meter = s.meter ∧ (arrive e status caught s).levels = s.levels ∧
    (arrive e status caught s).modes = s.modes ∧ (arrive e status caught s).job = s.job ∧
    (arrive e status caught s).pending = s.pending := by
  simp [arrive]

@[simp] theorem releaseHead_frame (s : State) :
    (releaseHead s).power = s.power ∧ (releaseHead s).seconds = s.seconds ∧
    (releaseHead s).storeBlank = s.storeBlank ∧ (releaseHead s).rack = s.rack ∧ (releaseHead s).tally = s.tally ∧
    (releaseHead s).depth = s.depth ∧ (releaseHead s).circ = s.circ ∧ (releaseHead s).meter = s.meter ∧
    (releaseHead s).levels = s.levels ∧ (releaseHead s).modes = s.modes ∧ (releaseHead s).job = s.job ∧
    (releaseHead s).pending = s.pending := by
  unfold releaseHead; split <;> simp

@[simp] theorem releaseUpTo_frame (fuel : Nat) (s : State) :
    (releaseUpTo fuel s).power = s.power ∧ (releaseUpTo fuel s).seconds = s.seconds ∧
    (releaseUpTo fuel s).storeBlank = s.storeBlank ∧ (releaseUpTo fuel s).rack = s.rack ∧
    (releaseUpTo fuel s).tally = s.tally ∧ (releaseUpTo fuel s).depth = s.depth ∧
    (releaseUpTo fuel s).circ = s.circ ∧ (releaseUpTo fuel s).meter = s.meter ∧
    (releaseUpTo fuel s).levels = s.levels ∧ (releaseUpTo fuel s).modes = s.modes ∧
    (releaseUpTo fuel s).job = s.job ∧ (releaseUpTo fuel s).pending = s.pending := by
  induction fuel generalizing s with
  | zero => simp [releaseUpTo]
  | succ n ih => unfold releaseUpTo; split <;> simp [ih]

@[simp] theorem releaseArrivals_frame (s : State) :
    (releaseArrivals s).power = s.power ∧ (releaseArrivals s).seconds = s.seconds ∧
    (releaseArrivals s).storeBlank = s.storeBlank ∧ (releaseArrivals s).rack = s.rack ∧
    (releaseArrivals s).tally = s.tally ∧ (releaseArrivals s).depth = s.depth ∧ (releaseArrivals s).circ = s.circ ∧
    (releaseArrivals s).meter = s.meter ∧ (releaseArrivals s).levels = s.levels ∧
    (releaseArrivals s).modes = s.modes ∧ (releaseArrivals s).job = s.job ∧
    (releaseArrivals s).pending = s.pending := by
  simp [releaseArrivals]

@[simp] theorem lagHandOff_frame (v : Nat) (s : State) :
    (lagHandOff v s).power = s.power ∧ (lagHandOff v s).seconds = s.seconds ∧
    (lagHandOff v s).storeBlank = s.storeBlank ∧ (lagHandOff v s).rack = s.rack ∧ (lagHandOff v s).tally = s.tally ∧
    (lagHandOff v s).depth = s.depth ∧ (lagHandOff v s).circ = s.circ ∧ (lagHandOff v s).meter = s.meter ∧
    (lagHandOff v s).levels = s.levels ∧ (lagHandOff v s).modes = s.modes ∧ (lagHandOff v s).job = s.job ∧
    (lagHandOff v s).pending = s.pending := by
  simp [lagHandOff]

@[simp] theorem abandonQueue_frame (s : State) :
    (abandonQueue s).power = s.power ∧ (abandonQueue s).seconds = s.seconds ∧
    (abandonQueue s).storeBlank = s.storeBlank ∧ (abandonQueue s).rack = s.rack ∧ (abandonQueue s).tally = s.tally ∧
    (abandonQueue s).depth = s.depth ∧ (abandonQueue s).circ = s.circ ∧ (abandonQueue s).meter = s.meter ∧
    (abandonQueue s).levels = s.levels ∧ (abandonQueue s).ports = s.ports ∧ (abandonQueue s).modes = s.modes ∧
    (abandonQueue s).job = s.job ∧ (abandonQueue s).pending = s.pending := by
  unfold abandonQueue
  and_intros <;> (simp; try exact foldl_keeps _ _ (by intros; simp) _ _)

end Sys2Proof.Machine
end

