-- ==== Sys2Proof/Laws/Modes.lean ====
section
/-! SUPPORT. Laws/Modes.lean: what the changes of mode of Machine/ModeOps.lean leave alone. One lemma for each
operation; simp takes each conjunct as a rule. -/

namespace Sys2Proof.Machine

@[simp] theorem drivePermits_tally (s : State) :
    (drivePermits s).tally.bha = s.tally.bha ∧ (drivePermits s).tally.stack = s.tally.stack ∧ (drivePermits
    s).tally.handling = s.tally.handling ∧ (drivePermits s).tally.state = s.tally.state ∧ (drivePermits
    s).tally.stab = s.tally.stab ∧ (drivePermits s).tally.makeupMin = s.tally.makeupMin ∧ (drivePermits
    s).tally.makeupMax = s.tally.makeupMax ∧ (drivePermits s).tally.earlyConfirms = s.tally.earlyConfirms ∧
    (drivePermits s).tally.lastMove = s.tally.lastMove := by
  and_intros <;> rfl

@[simp] theorem drivePermits_lines (s : State) :
    (drivePermits s).tally.slips.mismatch = s.tally.slips.mismatch ∧ (drivePermits s).tally.slips.fault =
    s.tally.slips.fault ∧ (drivePermits s).tally.slips.sense = s.tally.slips.sense ∧ (drivePermits
    s).tally.pump.mismatch = s.tally.pump.mismatch ∧ (drivePermits s).tally.pump.fault = s.tally.pump.fault ∧
    (drivePermits s).tally.pump.sense = s.tally.pump.sense := by
  and_intros <;> rfl

@[simp] theorem circEnterSetup_frame (s : State) :
    (circEnterSetup s).power = s.power ∧ (circEnterSetup s).seconds = s.seconds ∧
    (circEnterSetup s).storeBlank = s.storeBlank ∧ (circEnterSetup s).rack = s.rack ∧
    (circEnterSetup s).tally = s.tally ∧ (circEnterSetup s).depth = s.depth ∧ (circEnterSetup s).lag = s.lag ∧
    (circEnterSetup s).log = s.log ∧ (circEnterSetup s).meter = s.meter ∧ (circEnterSetup s).levels = s.levels ∧
    (circEnterSetup s).modes = s.modes ∧ (circEnterSetup s).job = s.job ∧ (circEnterSetup s).pending = s.pending := by
  simp [circEnterSetup]

@[simp] theorem enterSetupSteps_frame (s : State) :
    (enterSetupSteps s).power = s.power ∧ (enterSetupSteps s).seconds = s.seconds ∧
    (enterSetupSteps s).storeBlank = s.storeBlank ∧ (enterSetupSteps s).rack = s.rack ∧
    (enterSetupSteps s).tally = s.tally ∧ (enterSetupSteps s).depth = s.depth ∧ (enterSetupSteps s).meter = s.meter ∧
    (enterSetupSteps s).levels = s.levels ∧ (enterSetupSteps s).modes = s.modes ∧ (enterSetupSteps s).job = s.job ∧
    (enterSetupSteps s).pending = s.pending := by
  simp [enterSetupSteps]

@[simp] theorem dropPending_frame (s : State) :
    (dropPending s).power = s.power ∧ (dropPending s).seconds = s.seconds ∧
    (dropPending s).storeBlank = s.storeBlank ∧ (dropPending s).rack = s.rack ∧ (dropPending s).tally = s.tally ∧
    (dropPending s).depth = s.depth ∧ (dropPending s).circ = s.circ ∧ (dropPending s).lag = s.lag ∧
    (dropPending s).log = s.log ∧ (dropPending s).meter = s.meter ∧ (dropPending s).levels = s.levels ∧
    (dropPending s).ports = s.ports ∧ (dropPending s).job = s.job ∧ (dropPending s).pending = s.pending := by
  and_intros <;> rfl

@[simp] theorem setMode_frame (m : Mode) (s : State) :
    (setMode m s).power = s.power ∧ (setMode m s).seconds = s.seconds ∧ (setMode m s).storeBlank = s.storeBlank ∧
    (setMode m s).rack = s.rack ∧ (setMode m s).depth = s.depth ∧ (setMode m s).meter = s.meter ∧
    (setMode m s).levels = s.levels ∧ (setMode m s).job = s.job ∧ (setMode m s).pending = s.pending := by
  unfold setMode; simp only; split
  · simp
  · split <;> simp

@[simp] theorem setMode_tally (m : Mode) (s : State) :
    (setMode m s).tally.bha = s.tally.bha ∧ (setMode m s).tally.stack = s.tally.stack ∧ (setMode m
    s).tally.handling = s.tally.handling ∧ (setMode m s).tally.state = s.tally.state ∧ (setMode m s).tally.stab =
    s.tally.stab ∧ (setMode m s).tally.makeupMin = s.tally.makeupMin ∧ (setMode m s).tally.makeupMax =
    s.tally.makeupMax ∧ (setMode m s).tally.earlyConfirms = s.tally.earlyConfirms ∧ (setMode m s).tally.lastMove =
    s.tally.lastMove := by
  unfold setMode; simp only; split
  · simp
  · split <;> simp

@[simp] theorem setMode_lines (m : Mode) (s : State) :
    (setMode m s).tally.slips.mismatch = s.tally.slips.mismatch ∧ (setMode m s).tally.slips.fault =
    s.tally.slips.fault ∧ (setMode m s).tally.slips.sense = s.tally.slips.sense ∧ (setMode m
    s).tally.pump.mismatch = s.tally.pump.mismatch ∧ (setMode m s).tally.pump.fault = s.tally.pump.fault ∧
    (setMode m s).tally.pump.sense = s.tally.pump.sense := by
  unfold setMode; simp only; split
  · simp
  · split <;> simp

@[simp] theorem recheck_frame (s : State) :
    (recheck s).power = s.power ∧ (recheck s).seconds = s.seconds ∧ (recheck s).storeBlank = s.storeBlank ∧
    (recheck s).rack = s.rack ∧ (recheck s).depth = s.depth ∧ (recheck s).meter = s.meter ∧
    (recheck s).levels = s.levels ∧ (recheck s).job = s.job ∧ (recheck s).pending = s.pending := by
  unfold recheck; split
  · split <;> simp
  · simp

@[simp] theorem recheck_tally (s : State) :
    (recheck s).tally.bha = s.tally.bha ∧ (recheck s).tally.stack = s.tally.stack ∧ (recheck s).tally.handling =
    s.tally.handling ∧ (recheck s).tally.state = s.tally.state ∧ (recheck s).tally.stab = s.tally.stab ∧ (recheck
    s).tally.makeupMin = s.tally.makeupMin ∧ (recheck s).tally.makeupMax = s.tally.makeupMax ∧ (recheck
    s).tally.earlyConfirms = s.tally.earlyConfirms ∧ (recheck s).tally.lastMove = s.tally.lastMove := by
  unfold recheck; split
  · split <;> simp
  · simp

@[simp] theorem recheck_lines (s : State) :
    (recheck s).tally.slips.mismatch = s.tally.slips.mismatch ∧ (recheck s).tally.slips.fault =
    s.tally.slips.fault ∧ (recheck s).tally.slips.sense = s.tally.slips.sense ∧ (recheck s).tally.pump.mismatch =
    s.tally.pump.mismatch ∧ (recheck s).tally.pump.fault = s.tally.pump.fault ∧ (recheck s).tally.pump.sense =
    s.tally.pump.sense := by
  unfold recheck; split
  · split <;> simp
  · simp

@[simp] theorem takeMode_frame (m : Mode) (s : State) :
    (takeMode m s).power = s.power ∧ (takeMode m s).seconds = s.seconds ∧ (takeMode m s).storeBlank = s.storeBlank ∧
    (takeMode m s).rack = s.rack ∧ (takeMode m s).depth = s.depth ∧ (takeMode m s).meter = s.meter ∧
    (takeMode m s).levels = s.levels ∧ (takeMode m s).job = s.job ∧ (takeMode m s).pending = s.pending := by
  simp [takeMode]

@[simp] theorem takeMode_tally (m : Mode) (s : State) :
    (takeMode m s).tally.bha = s.tally.bha ∧ (takeMode m s).tally.stack = s.tally.stack ∧ (takeMode m
    s).tally.handling = s.tally.handling ∧ (takeMode m s).tally.state = s.tally.state ∧ (takeMode m s).tally.stab
    = s.tally.stab ∧ (takeMode m s).tally.makeupMin = s.tally.makeupMin ∧ (takeMode m s).tally.makeupMax =
    s.tally.makeupMax ∧ (takeMode m s).tally.earlyConfirms = s.tally.earlyConfirms ∧ (takeMode m s).tally.lastMove
    = s.tally.lastMove := by
  simp [takeMode]

@[simp] theorem takeMode_lines (m : Mode) (s : State) :
    (takeMode m s).tally.slips.mismatch = s.tally.slips.mismatch ∧ (takeMode m s).tally.slips.fault =
    s.tally.slips.fault ∧ (takeMode m s).tally.slips.sense = s.tally.slips.sense ∧ (takeMode m
    s).tally.pump.mismatch = s.tally.pump.mismatch ∧ (takeMode m s).tally.pump.fault = s.tally.pump.fault ∧
    (takeMode m s).tally.pump.sense = s.tally.pump.sense := by
  simp [takeMode]

@[simp] theorem wakeEvent_frame (w : WakeSource) (s : State) :
    (wakeEvent w s).power = s.power ∧ (wakeEvent w s).seconds = s.seconds ∧
    (wakeEvent w s).storeBlank = s.storeBlank ∧ (wakeEvent w s).rack = s.rack ∧ (wakeEvent w s).depth = s.depth ∧
    (wakeEvent w s).meter = s.meter ∧ (wakeEvent w s).levels = s.levels ∧ (wakeEvent w s).job = s.job ∧
    (wakeEvent w s).pending = s.pending := by
  unfold wakeEvent; simp only; split
  · split <;> simp
  · simp

@[simp] theorem wakeEvent_tally (w : WakeSource) (s : State) :
    (wakeEvent w s).tally.bha = s.tally.bha ∧ (wakeEvent w s).tally.stack = s.tally.stack ∧ (wakeEvent w
    s).tally.handling = s.tally.handling ∧ (wakeEvent w s).tally.state = s.tally.state ∧ (wakeEvent w
    s).tally.stab = s.tally.stab ∧ (wakeEvent w s).tally.makeupMin = s.tally.makeupMin ∧ (wakeEvent w
    s).tally.makeupMax = s.tally.makeupMax ∧ (wakeEvent w s).tally.earlyConfirms = s.tally.earlyConfirms ∧
    (wakeEvent w s).tally.lastMove = s.tally.lastMove := by
  unfold wakeEvent; simp only; split
  · split <;> simp
  · simp

@[simp] theorem wakeEvent_lines (w : WakeSource) (s : State) :
    (wakeEvent w s).tally.slips.mismatch = s.tally.slips.mismatch ∧ (wakeEvent w s).tally.slips.fault =
    s.tally.slips.fault ∧ (wakeEvent w s).tally.slips.sense = s.tally.slips.sense ∧ (wakeEvent w
    s).tally.pump.mismatch = s.tally.pump.mismatch ∧ (wakeEvent w s).tally.pump.fault = s.tally.pump.fault ∧
    (wakeEvent w s).tally.pump.sense = s.tally.pump.sense := by
  unfold wakeEvent; simp only; split
  · split <;> simp
  · simp

@[simp] theorem wakeEvents_frame (ws : List WakeSource) (s : State) :
    (wakeEvents ws s).power = s.power ∧ (wakeEvents ws s).seconds = s.seconds ∧
    (wakeEvents ws s).storeBlank = s.storeBlank ∧ (wakeEvents ws s).rack = s.rack ∧
    (wakeEvents ws s).depth = s.depth ∧ (wakeEvents ws s).meter = s.meter ∧ (wakeEvents ws s).levels = s.levels ∧
    (wakeEvents ws s).job = s.job ∧ (wakeEvents ws s).pending = s.pending := by
  unfold wakeEvents
  and_intros <;> exact foldl_keeps _ _ (by intros; simp) _ _

@[simp] theorem wakeEvents_tally (ws : List WakeSource) (s : State) :
    (wakeEvents ws s).tally.bha = s.tally.bha ∧ (wakeEvents ws s).tally.stack = s.tally.stack ∧ (wakeEvents ws
    s).tally.handling = s.tally.handling ∧ (wakeEvents ws s).tally.state = s.tally.state ∧ (wakeEvents ws
    s).tally.stab = s.tally.stab ∧ (wakeEvents ws s).tally.makeupMin = s.tally.makeupMin ∧ (wakeEvents ws
    s).tally.makeupMax = s.tally.makeupMax ∧ (wakeEvents ws s).tally.earlyConfirms = s.tally.earlyConfirms ∧
    (wakeEvents ws s).tally.lastMove = s.tally.lastMove := by
  unfold wakeEvents
  exact ⟨foldl_keeps (fun s => s.tally.bha) _ (by intros; simp) _ _,
    foldl_keeps (fun s => s.tally.stack) _ (by intros; simp) _ _,
    foldl_keeps (fun s => s.tally.handling) _ (by intros; simp) _ _,
    foldl_keeps (fun s => s.tally.state) _ (by intros; simp) _ _,
    foldl_keeps (fun s => s.tally.stab) _ (by intros; simp) _ _,
    foldl_keeps (fun s => s.tally.makeupMin) _ (by intros; simp) _ _,
    foldl_keeps (fun s => s.tally.makeupMax) _ (by intros; simp) _ _,
    foldl_keeps (fun s => s.tally.earlyConfirms) _ (by intros; simp) _ _,
    foldl_keeps (fun s => s.tally.lastMove) _ (by intros; simp) _ _⟩

@[simp] theorem wakeEvents_lines (ws : List WakeSource) (s : State) :
    (wakeEvents ws s).tally.slips.mismatch = s.tally.slips.mismatch ∧ (wakeEvents ws s).tally.slips.fault =
    s.tally.slips.fault ∧ (wakeEvents ws s).tally.slips.sense = s.tally.slips.sense ∧ (wakeEvents ws
    s).tally.pump.mismatch = s.tally.pump.mismatch ∧ (wakeEvents ws s).tally.pump.fault = s.tally.pump.fault ∧
    (wakeEvents ws s).tally.pump.sense = s.tally.pump.sense := by
  unfold wakeEvents
  exact ⟨foldl_keeps (fun s => s.tally.slips.mismatch) _ (by intros; simp) _ _,
    foldl_keeps (fun s => s.tally.slips.fault) _ (by intros; simp) _ _,
    foldl_keeps (fun s => s.tally.slips.sense) _ (by intros; simp) _ _,
    foldl_keeps (fun s => s.tally.pump.mismatch) _ (by intros; simp) _ _,
    foldl_keeps (fun s => s.tally.pump.fault) _ (by intros; simp) _ _,
    foldl_keeps (fun s => s.tally.pump.sense) _ (by intros; simp) _ _⟩

end Sys2Proof.Machine
end

