-- ==== Sys2Proof/Laws/Depth.lean ====
section
/-! SUPPORT. Laws/Depth.lean: what the depth computation and its increment leave alone, and the pieces of a rod move. One lemma for each
operation; simp takes each conjunct as a rule. -/

namespace Sys2Proof.Machine

@[simp] theorem handIncrement_frame (a b : Nat) (s : State) :
    (handIncrement a b s).power = s.power ∧ (handIncrement a b s).seconds = s.seconds ∧
    (handIncrement a b s).storeBlank = s.storeBlank ∧ (handIncrement a b s).rack = s.rack ∧
    (handIncrement a b s).tally = s.tally ∧ (handIncrement a b s).depth = s.depth ∧
    (handIncrement a b s).circ = s.circ ∧ (handIncrement a b s).levels = s.levels ∧
    (handIncrement a b s).modes = s.modes ∧ (handIncrement a b s).job = s.job ∧
    (handIncrement a b s).pending = s.pending := by
  simp [handIncrement]

@[simp] theorem advanceHole_frame (raw hole : Nat) (s : State) :
    (advanceHole raw hole s).power = s.power ∧ (advanceHole raw hole s).seconds = s.seconds ∧
    (advanceHole raw hole s).storeBlank = s.storeBlank ∧ (advanceHole raw hole s).rack = s.rack ∧
    (advanceHole raw hole s).tally = s.tally ∧ (advanceHole raw hole s).circ = s.circ ∧
    (advanceHole raw hole s).levels = s.levels ∧ (advanceHole raw hole s).modes = s.modes ∧
    (advanceHole raw hole s).job = s.job ∧ (advanceHole raw hole s).pending = s.pending := by
  unfold advanceHole; simp only
  repeat' split
  all_goals simp

@[simp] theorem clampToHole_frame (raw hole : Nat) (s : State) :
    (clampToHole raw hole s).power = s.power ∧ (clampToHole raw hole s).seconds = s.seconds ∧
    (clampToHole raw hole s).storeBlank = s.storeBlank ∧ (clampToHole raw hole s).rack = s.rack ∧
    (clampToHole raw hole s).tally = s.tally ∧ (clampToHole raw hole s).circ = s.circ ∧
    (clampToHole raw hole s).levels = s.levels ∧ (clampToHole raw hole s).modes = s.modes ∧
    (clampToHole raw hole s).job = s.job ∧ (clampToHole raw hole s).pending = s.pending := by
  simp [clampToHole]

@[simp] theorem holeStep_frame (raw : Nat) (s : State) :
    (holeStep raw s).power = s.power ∧ (holeStep raw s).seconds = s.seconds ∧
    (holeStep raw s).storeBlank = s.storeBlank ∧ (holeStep raw s).rack = s.rack ∧ (holeStep raw s).tally = s.tally ∧
    (holeStep raw s).circ = s.circ ∧ (holeStep raw s).levels = s.levels ∧ (holeStep raw s).modes = s.modes ∧
    (holeStep raw s).job = s.job ∧ (holeStep raw s).pending = s.pending := by
  unfold holeStep
  repeat' split
  all_goals simp

@[simp] theorem depthCompute_frame (s : State) :
    (depthCompute s).power = s.power ∧ (depthCompute s).seconds = s.seconds ∧
    (depthCompute s).storeBlank = s.storeBlank ∧ (depthCompute s).rack = s.rack ∧ (depthCompute s).tally = s.tally ∧
    (depthCompute s).circ = s.circ ∧ (depthCompute s).levels = s.levels ∧ (depthCompute s).modes = s.modes ∧
    (depthCompute s).job = s.job ∧ (depthCompute s).pending = s.pending := by
  unfold depthCompute; split
  · simp
  · simp only; split <;> simp

@[simp] theorem moveTo_frame (t : Tally) (s : State) :
    (moveTo t s).power = s.power ∧ (moveTo t s).seconds = s.seconds ∧ (moveTo t s).storeBlank = s.storeBlank ∧
    (moveTo t s).rack = s.rack ∧ (moveTo t s).depth = s.depth ∧ (moveTo t s).circ = s.circ ∧
    (moveTo t s).lag = s.lag ∧ (moveTo t s).log = s.log ∧ (moveTo t s).meter = s.meter ∧
    (moveTo t s).levels = s.levels ∧ (moveTo t s).ports = s.ports ∧ (moveTo t s).modes = s.modes ∧
    (moveTo t s).job = s.job ∧ (moveTo t s).pending = s.pending := by
  and_intros <;> rfl

@[simp] theorem moveStringTop_frame (d : Int) (s : State) :
    (moveStringTop d s).power = s.power ∧ (moveStringTop d s).seconds = s.seconds ∧
    (moveStringTop d s).storeBlank = s.storeBlank ∧ (moveStringTop d s).rack = s.rack ∧
    (moveStringTop d s).tally = s.tally ∧ (moveStringTop d s).circ = s.circ ∧ (moveStringTop d s).lag = s.lag ∧
    (moveStringTop d s).log = s.log ∧ (moveStringTop d s).meter = s.meter ∧ (moveStringTop d s).levels = s.levels ∧
    (moveStringTop d s).ports = s.ports ∧ (moveStringTop d s).modes = s.modes ∧ (moveStringTop d s).job = s.job ∧
    (moveStringTop d s).pending = s.pending := by
  and_intros <;> rfl

@[simp] theorem countJoint_frame (serials : List Nat) (s : State) :
    (countJoint serials s).power = s.power ∧ (countJoint serials s).seconds = s.seconds ∧
    (countJoint serials s).storeBlank = s.storeBlank ∧ (countJoint serials s).tally = s.tally ∧
    (countJoint serials s).depth = s.depth ∧ (countJoint serials s).circ = s.circ ∧
    (countJoint serials s).lag = s.lag ∧ (countJoint serials s).log = s.log ∧
    (countJoint serials s).meter = s.meter ∧ (countJoint serials s).levels = s.levels ∧
    (countJoint serials s).modes = s.modes ∧ (countJoint serials s).job = s.job ∧
    (countJoint serials s).pending = s.pending := by
  simp [countJoint]

@[simp] theorem noteWornPick_frame (serial : Nat) (s : State) :
    (noteWornPick serial s).power = s.power ∧ (noteWornPick serial s).seconds = s.seconds ∧
    (noteWornPick serial s).storeBlank = s.storeBlank ∧ (noteWornPick serial s).rack = s.rack ∧
    (noteWornPick serial s).tally = s.tally ∧ (noteWornPick serial s).depth = s.depth ∧
    (noteWornPick serial s).circ = s.circ ∧ (noteWornPick serial s).lag = s.lag ∧
    (noteWornPick serial s).log = s.log ∧ (noteWornPick serial s).meter = s.meter ∧
    (noteWornPick serial s).levels = s.levels ∧ (noteWornPick serial s).modes = s.modes ∧
    (noteWornPick serial s).job = s.job ∧ (noteWornPick serial s).pending = s.pending := by
  unfold noteWornPick; split <;> simp

@[simp] theorem expireStab_frame (s : State) :
    (expireStab s).power = s.power ∧ (expireStab s).seconds = s.seconds ∧ (expireStab s).storeBlank = s.storeBlank ∧
    (expireStab s).rack = s.rack ∧ (expireStab s).depth = s.depth ∧ (expireStab s).meter = s.meter ∧
    (expireStab s).levels = s.levels ∧ (expireStab s).job = s.job ∧ (expireStab s).pending = s.pending := by
  unfold expireStab; split <;> simp

@[simp] theorem permitReadback_frame (pins : SensePins) (s : State) :
    (permitReadback pins s).power = s.power ∧ (permitReadback pins s).seconds = s.seconds ∧
    (permitReadback pins s).storeBlank = s.storeBlank ∧ (permitReadback pins s).rack = s.rack ∧
    (permitReadback pins s).depth = s.depth ∧ (permitReadback pins s).meter = s.meter ∧
    (permitReadback pins s).levels = s.levels ∧ (permitReadback pins s).job = s.job ∧
    (permitReadback pins s).pending = s.pending := by
  unfold permitReadback; simp only; split <;> simp

@[simp] theorem secondComparison_frame (q : Permit) (sense : Bool) (s : State) :
    (secondComparison q sense s).power = s.power ∧ (secondComparison q sense s).seconds = s.seconds ∧
    (secondComparison q sense s).storeBlank = s.storeBlank ∧ (secondComparison q sense s).rack = s.rack ∧
    (secondComparison q sense s).depth = s.depth ∧ (secondComparison q sense s).meter = s.meter ∧
    (secondComparison q sense s).levels = s.levels ∧ (secondComparison q sense s).job = s.job ∧
    (secondComparison q sense s).pending = s.pending := by
  unfold secondComparison; simp only; split <;> simp

@[simp] theorem makeStale_frame (s : State) :
    (makeStale s).power = s.power ∧ (makeStale s).seconds = s.seconds ∧ (makeStale s).storeBlank = s.storeBlank ∧
    (makeStale s).rack = s.rack ∧ (makeStale s).depth = s.depth ∧ (makeStale s).meter = s.meter ∧
    (makeStale s).levels = s.levels ∧ (makeStale s).job = s.job ∧ (makeStale s).pending = s.pending := by
  unfold makeStale; split <;> simp

@[simp] theorem wearSecond_frame (s : State) :
    (wearSecond s).power = s.power ∧ (wearSecond s).seconds = s.seconds ∧ (wearSecond s).storeBlank = s.storeBlank ∧
    (wearSecond s).tally = s.tally ∧ (wearSecond s).depth = s.depth ∧ (wearSecond s).circ = s.circ ∧
    (wearSecond s).lag = s.lag ∧ (wearSecond s).log = s.log ∧ (wearSecond s).meter = s.meter ∧
    (wearSecond s).levels = s.levels ∧ (wearSecond s).modes = s.modes ∧ (wearSecond s).job = s.job ∧
    (wearSecond s).pending = s.pending := by
  unfold wearSecond; split <;> simp

@[simp] theorem deriveActivity_frame (s : State) :
    (deriveActivity s).power = s.power ∧ (deriveActivity s).seconds = s.seconds ∧
    (deriveActivity s).storeBlank = s.storeBlank ∧ (deriveActivity s).rack = s.rack ∧
    (deriveActivity s).tally = s.tally ∧ (deriveActivity s).circ = s.circ ∧ (deriveActivity s).lag = s.lag ∧
    (deriveActivity s).log = s.log ∧ (deriveActivity s).meter = s.meter ∧ (deriveActivity s).levels = s.levels ∧
    (deriveActivity s).ports = s.ports ∧ (deriveActivity s).modes = s.modes ∧ (deriveActivity s).job = s.job ∧
    (deriveActivity s).pending = s.pending := by
  and_intros <;> rfl

@[simp] theorem logSecond_frame (s : State) :
    (logSecond s).power = s.power ∧ (logSecond s).seconds = s.seconds ∧ (logSecond s).storeBlank = s.storeBlank ∧
    (logSecond s).rack = s.rack ∧ (logSecond s).tally = s.tally ∧ (logSecond s).depth = s.depth ∧
    (logSecond s).circ = s.circ ∧ (logSecond s).lag = s.lag ∧ (logSecond s).meter = s.meter ∧
    (logSecond s).levels = s.levels ∧ (logSecond s).ports = s.ports ∧ (logSecond s).modes = s.modes ∧
    (logSecond s).job = s.job ∧ (logSecond s).pending = s.pending := by
  unfold logSecond; split <;> simp

@[simp] theorem clockSecond_frame (s : State) :
    (clockSecond s).power = s.power ∧ (clockSecond s).seconds = s.seconds ∧
    (clockSecond s).storeBlank = s.storeBlank ∧ (clockSecond s).rack = s.rack ∧ (clockSecond s).tally = s.tally ∧
    (clockSecond s).depth = s.depth ∧ (clockSecond s).circ = s.circ ∧ (clockSecond s).lag = s.lag ∧
    (clockSecond s).log = s.log ∧ (clockSecond s).levels = s.levels ∧ (clockSecond s).ports = s.ports ∧
    (clockSecond s).modes = s.modes ∧ (clockSecond s).pending = s.pending := by
  unfold clockSecond; split <;> simp

@[simp] theorem overdueExpiries_frame (s : State) :
    (overdueExpiries s).power = s.power ∧ (overdueExpiries s).seconds = s.seconds ∧
    (overdueExpiries s).storeBlank = s.storeBlank ∧ (overdueExpiries s).rack = s.rack ∧
    (overdueExpiries s).depth = s.depth ∧ (overdueExpiries s).meter = s.meter ∧
    (overdueExpiries s).levels = s.levels ∧ (overdueExpiries s).job = s.job ∧
    (overdueExpiries s).pending = s.pending := by
  simp [overdueExpiries]

end Sys2Proof.Machine
end

