-- ==== Sys2Proof/Laws/PerInstr.lean ====
section
/-! SUPPORT. Laws/PerInstr.lean: for every command, its fields read back as the command (R182): the widths that its code gives are
those of its fields, and the values of its fields make it again. -/

namespace Sys2Proof.Laws

/-- R182: the fields of a well-formed request are read back at their widths, and give the request. -/
def CodecFields.Statement (i : Instr) : Prop :=
  i.wf = true → ∀ code ∈ i.requestCode, ∀ p pins, i.port = some p → (∀ x ∈ i.pins, x = pins) →
    requestWidths code (encodeFields i.fields) = some (i.fields.map Field.width) ∧
      requestOf p pins code (i.fields.map Field.value) = some i

/-! ### Lists of a request -/

theorem bhaOf_fields (cs : List BhaField) : bhaOf ((cs.flatMap BhaField.fields).map Field.value) = cs := by
  induction cs with
  | nil => rfl
  | cons c cs ih => simpa [BhaField.fields, bhaOf] using ih

theorem sectionsOf_fields (cs : List SectionField) :
    sectionsOf ((cs.flatMap SectionField.fields).map Field.value) = cs := by
  induction cs with
  | nil => rfl
  | cons c cs ih => simpa [SectionField.fields, sectionsOf] using ih

theorem wakesOf_fields (cs : List WakeField) : wakesOf ((cs.flatMap WakeField.fields).map Field.value) = cs := by
  induction cs with
  | nil => rfl
  | cons c cs ih => simpa [WakeField.fields, wakesOf] using ih

theorem bha_widths (cs : List BhaField) :
    (List.replicate cs.length [1, 2, 2]).flatten = (cs.flatMap BhaField.fields).map Field.width := by
  induction cs with
  | nil => rfl
  | cons c cs ih => simpa [BhaField.fields, List.replicate_succ] using ih

theorem section_widths (cs : List SectionField) :
    (List.replicate cs.length [4, 2, 1]).flatten = (cs.flatMap SectionField.fields).map Field.width := by
  induction cs with
  | nil => rfl
  | cons c cs ih => simpa [SectionField.fields, List.replicate_succ] using ih

theorem wake_widths (cs : List WakeField) :
    flagWidths (2 * cs.length) = (cs.flatMap WakeField.fields).map Field.width := by
  induction cs with
  | nil => rfl
  | cons c cs ih => simpa [WakeField.fields, flagWidths, Nat.mul_add, List.replicate_succ] using ih

@[simp] theorem numbers_width (w : Nat) (vs : List Nat) : (numbers w vs).map Field.width = List.replicate vs.length w := by
  induction vs with
  | nil => rfl
  | cons v vs ih => simpa [numbers, List.replicate_succ] using ih

@[simp] theorem numbers_value (w : Nat) (vs : List Nat) : (numbers w vs).map Field.value = vs := by
  induction vs with
  | nil => rfl
  | cons v vs ih => simpa [numbers] using ih

/-- R182: the count byte of a list that fits it. -/
theorem leadingCount_encode (n : Nat) (fs : List Field) (h : n < 256) :
    leadingCount (encodeFields (⟨1, n⟩ :: fs)) = n := by
  simp [leadingCount, encodeFields, leBytes, leNat, Nat.mod_eq_of_lt h]

theorem four_of_length (vs : List Nat) (h : vs.length = 4) : ∃ a b c d, vs = [a, b, c, d] := by
  match vs, h with
  | [a, b, c, d], _ => exact ⟨a, b, c, d, rfl⟩

/-! ### One lemma per command -/

theorem CodecFields.registerRod (p : Port) (serial : Nat) (length : Nat) (od : Nat) (slot : Nat)
    : Statement (.registerRod p serial length od slot) := by
  intro _ code h q pins hp _; cases h; cases hp; exact ⟨rfl, rfl⟩

theorem CodecFields.deleteRod (p : Port) (serial : Nat) : Statement (.deleteRod p serial) := by
  intro _ code h q pins hp _; cases h; cases hp; exact ⟨rfl, rfl⟩

theorem CodecFields.restoreRod (p : Port) (serial : Nat) (slot : Nat) : Statement (.restoreRod p serial slot) := by
  intro _ code h q pins hp _; cases h; cases hp; exact ⟨rfl, rfl⟩

theorem CodecFields.setWearLimits (p : Port) (joints : Nat) (hours : Nat)
    : Statement (.setWearLimits p joints hours) := by
  intro _ code h q pins hp _; cases h; cases hp; exact ⟨rfl, rfl⟩

theorem CodecFields.setSlotSensing (p : Port) (bay : Nat) (enables : List Nat)
    : Statement (.setSlotSensing p bay enables) := by
  intro wf code h q pins hp _; cases h; cases hp
  have hl : enables.length = 32 := by simp [Instr.wf, Instr.listsOk] at wf; omega
  refine ⟨Eq.trans (b := some ([1] ++ flagWidths 32)) rfl ?_, Eq.trans (b := some (.setSlotSensing p bay ((numbers 1 enables).map Field.value))) rfl ?_⟩
  · simp [Instr.fields, flagWidths, hl]
  · rw [numbers_value]

theorem CodecFields.rackSense (p : Port) (bay : Nat) (presence : List Nat)
    : Statement (.rackSense p bay presence) := by
  intro wf code h q pins hp _; cases h; cases hp
  have hl : presence.length = 32 := by simp [Instr.wf, Instr.listsOk] at wf; omega
  refine ⟨Eq.trans (b := some ([1] ++ flagWidths 32)) rfl ?_, Eq.trans (b := some (.rackSense p bay ((numbers 1 presence).map Field.value))) rfl ?_⟩
  · simp [Instr.fields, flagWidths, hl]
  · rw [numbers_value]

theorem CodecFields.setBha (p : Port) (components : List BhaField) : Statement (.setBha p components) := by
  intro wf code h q pins hp _; cases h; cases hp
  have hl : components.length < 256 := by
    simp [Instr.wf, Instr.fields, Field.fits] at wf; omega
  refine ⟨Eq.trans (b := some (1 :: (List.replicate (leadingCount _) [1, 2, 2]).flatten)) rfl ?_,
    Eq.trans (b := some (.setBha p (bhaOf _))) rfl ?_⟩
  · rw [Instr.fields, leadingCount_encode _ _ hl, bha_widths]; rfl
  · rw [bhaOf_fields]

theorem CodecFields.setSlips (p : Port) : Statement (.setSlips p) := by
  intro _ code h q pins hp _; cases h; cases hp; exact ⟨rfl, rfl⟩

theorem CodecFields.releaseSlips (p : Port) (pins : SensePins) : Statement (.releaseSlips p pins) := by
  intro _ code h q pins' hp hs; cases h; cases hp
  obtain rfl := hs pins rfl
  exact ⟨rfl, rfl⟩

theorem CodecFields.unlatch (p : Port) : Statement (.unlatch p) := by
  intro _ code h q pins hp _; cases h; cases hp; exact ⟨rfl, rfl⟩

theorem CodecFields.latch (p : Port) : Statement (.latch p) := by
  intro _ code h q pins hp _; cases h; cases hp; exact ⟨rfl, rfl⟩

theorem CodecFields.breakJoint (p : Port) : Statement (.breakJoint p) := by
  intro _ code h q pins hp _; cases h; cases hp; exact ⟨rfl, rfl⟩

theorem CodecFields.pickRod (p : Port) (slot : Nat) : Statement (.pickRod p slot) := by
  intro _ code h q pins hp _; cases h; cases hp; exact ⟨rfl, rfl⟩

theorem CodecFields.stab (p : Port) : Statement (.stab p) := by
  intro _ code h q pins hp _; cases h; cases hp; exact ⟨rfl, rfl⟩

theorem CodecFields.makeJoint (p : Port) : Statement (.makeJoint p) := by
  intro _ code h q pins hp _; cases h; cases hp; exact ⟨rfl, rfl⟩

theorem CodecFields.rackRod (p : Port) (slot : Nat) : Statement (.rackRod p slot) := by
  intro _ code h q pins hp _; cases h; cases hp; exact ⟨rfl, rfl⟩

theorem CodecFields.layOutRod (p : Port) : Statement (.layOutRod p) := by
  intro _ code h q pins hp _; cases h; cases hp; exact ⟨rfl, rfl⟩

theorem CodecFields.resolveRod (p : Port) (destination : Nat) (slot : Nat)
    : Statement (.resolveRod p destination slot) := by
  intro _ code h q pins hp _; cases h; cases hp; exact ⟨rfl, rfl⟩

theorem CodecFields.setMakeupLimits (p : Port) (minimum : Nat) (maximum : Nat)
    : Statement (.setMakeupLimits p minimum maximum) := by
  intro _ code h q pins hp _; cases h; cases hp; exact ⟨rfl, rfl⟩

theorem CodecFields.block (p : Port) (height : Nat) (rotation : Nat) : Statement (.block p height rotation) := by
  intro _ code h q pins hp _; cases h; cases hp; exact ⟨rfl, rfl⟩

theorem CodecFields.downStart (p : Port) : Statement (.downStart p) := by
  intro _ code h q pins hp _; cases h; cases hp; exact ⟨rfl, rfl⟩

theorem CodecFields.downEnd (p : Port) : Statement (.downEnd p) := by
  intro _ code h q pins hp _; cases h; cases hp; exact ⟨rfl, rfl⟩

theorem CodecFields.setPump (p : Port) (pump : Nat) (displacement : Nat) (efficiency : Nat) (maxRate : Nat)
    : Statement (.setPump p pump displacement efficiency maxRate) := by
  intro _ code h q pins hp _; cases h; cases hp; exact ⟨rfl, rfl⟩

theorem CodecFields.setCirculationLimits (p : Port) (loss : Nat) (gain : Nat) (flowOutMax : Nat) (pitStep : Nat)
    : Statement (.setCirculationLimits p loss gain flowOutMax pitStep) := by
  intro _ code h q pins hp _; cases h; cases hp; exact ⟨rfl, rfl⟩

theorem CodecFields.circulation (p : Port) (p1 : Nat) (p2 : Nat) (flowOut : Nat) (pit : Nat)
    : Statement (.circulation p p1 p2 flowOut pit) := by
  intro _ code h q pins hp _; cases h; cases hp; exact ⟨rfl, rfl⟩

theorem CodecFields.additive (p : Port) (item : Nat) (units : Nat) : Statement (.additive p item units) := by
  intro _ code h q pins hp _; cases h; cases hp; exact ⟨rfl, rfl⟩

theorem CodecFields.setCasingProgram (p : Port) (sections : List SectionField)
    : Statement (.setCasingProgram p sections) := by
  intro wf code h q pins hp _; cases h; cases hp
  have hl : sections.length < 256 := by
    simp [Instr.wf, Instr.fields, Field.fits] at wf; omega
  refine ⟨Eq.trans (b := some (1 :: (List.replicate (leadingCount _) [4, 2, 1]).flatten)) rfl ?_,
    Eq.trans (b := some (.setCasingProgram p (sectionsOf _))) rfl ?_⟩
  · rw [Instr.fields, leadingCount_encode _ _ hl, section_widths]; rfl
  · rw [sectionsOf_fields]

theorem CodecFields.sampleCaught (p : Port) (number : Nat) : Statement (.sampleCaught p number) := by
  intro _ code h q pins hp _; cases h; cases hp; exact ⟨rfl, rfl⟩

theorem CodecFields.setDrillBreak (p : Port) (mode : Nat) (ratio : Nat)
    : Statement (.setDrillBreak p mode ratio) := by
  intro _ code h q pins hp _; cases h; cases hp; exact ⟨rfl, rfl⟩

theorem CodecFields.reArm (p : Port) : Statement (.reArm p) := by
  intro _ code h q pins hp _; cases h; cases hp; exact ⟨rfl, rfl⟩

theorem CodecFields.classify (p : Port) (index : Nat) (lithology : OptField) (band : OptField)
    : Statement (.classify p index lithology band) := by
  intro _ code h q pins hp _; cases h; cases hp; exact ⟨rfl, rfl⟩

theorem CodecFields.confirm (p : Port) (index : Nat) : Statement (.confirm p index) := by
  intro _ code h q pins hp _; cases h; cases hp; exact ⟨rfl, rfl⟩

theorem CodecFields.merge (p : Port) (index : Nat) : Statement (.merge p index) := by
  intro _ code h q pins hp _; cases h; cases hp; exact ⟨rfl, rfl⟩

theorem CodecFields.split (p : Port) (depth : Nat) : Statement (.split p depth) := by
  intro _ code h q pins hp _; cases h; cases hp; exact ⟨rfl, rfl⟩

theorem CodecFields.waterStrike (p : Port) (depth : Nat) (yieldRate : OptField)
    : Statement (.waterStrike p depth yieldRate) := by
  intro _ code h q pins hp _; cases h; cases hp; exact ⟨rfl, rfl⟩

theorem CodecFields.clearWaterStrike (p : Port) (index : Nat) : Statement (.clearWaterStrike p index) := by
  intro _ code h q pins hp _; cases h; cases hp; exact ⟨rfl, rfl⟩

theorem CodecFields.setBandRates (p : Port) (rates : List Nat) (defaultBand : Nat)
    : Statement (.setBandRates p rates defaultBand) := by
  intro wf code h q pins hp _; cases h; cases hp
  have hl : rates.length = 4 := by simp [Instr.wf, Instr.listsOk] at wf; omega
  obtain ⟨a, b, c, d, rfl⟩ := four_of_length rates hl
  exact ⟨rfl, rfl⟩

theorem CodecFields.setTierMultipliers (p : Port) (multipliers : List Nat)
    : Statement (.setTierMultipliers p multipliers) := by
  intro wf code h q pins hp _; cases h; cases hp
  have hl : multipliers.length = 8 := by simp [Instr.wf, Instr.listsOk] at wf; omega
  refine ⟨Eq.trans (b := some (List.replicate 8 2)) rfl ?_, Eq.trans (b := some (.setTierMultipliers p _)) rfl ?_⟩
  · simp [Instr.fields, hl]
  · rw [Instr.fields, numbers_value]

theorem CodecFields.setHourlyRates (p : Port) (rates : List Nat) : Statement (.setHourlyRates p rates) := by
  intro wf code h q pins hp _; cases h; cases hp
  have hl : rates.length = 5 := by simp [Instr.wf, Instr.listsOk] at wf; omega
  refine ⟨Eq.trans (b := some (List.replicate 5 4)) rfl ?_, Eq.trans (b := some (.setHourlyRates p _)) rfl ?_⟩
  · simp [Instr.fields, hl]
  · rw [Instr.fields, numbers_value]

theorem CodecFields.setAdditivePrices (p : Port) (prices : List Nat) : Statement (.setAdditivePrices p prices) := by
  intro wf code h q pins hp _; cases h; cases hp
  have hl : prices.length = 8 := by simp [Instr.wf, Instr.listsOk] at wf; omega
  refine ⟨Eq.trans (b := some (List.replicate 8 4)) rfl ?_, Eq.trans (b := some (.setAdditivePrices p _)) rfl ?_⟩
  · simp [Instr.fields, hl]
  · rw [Instr.fields, numbers_value]

theorem CodecFields.closeTicket (p : Port) (reference : Nat) : Statement (.closeTicket p reference) := by
  intro _ code h q pins hp _; cases h; cases hp; exact ⟨rfl, rfl⟩

theorem CodecFields.acknowledgeTicket (p : Port) (number : Nat) : Statement (.acknowledgeTicket p number) := by
  intro _ code h q pins hp _; cases h; cases hp; exact ⟨rfl, rfl⟩

theorem CodecFields.setNoticeLevels (p : Port) (levels : List Nat) : Statement (.setNoticeLevels p levels) := by
  intro wf code h q pins hp _; cases h; cases hp
  have hl : levels.length = 25 := by simp [Instr.wf, Instr.listsOk] at wf; omega
  refine ⟨Eq.trans (b := some (flagWidths 25)) rfl ?_, Eq.trans (b := some (.setNoticeLevels p _)) rfl ?_⟩
  · simp [Instr.fields, flagWidths, hl]
  · rw [Instr.fields, numbers_value]

theorem CodecFields.setNoticeFilter (p : Port) (pair : Nat) (enable : Nat) (mask : Nat) (pattern : Nat)
    : Statement (.setNoticeFilter p pair enable mask pattern) := by
  intro _ code h q pins hp _; cases h; cases hp; exact ⟨rfl, rfl⟩

theorem CodecFields.enterSetup (p : Port) : Statement (.enterSetup p) := by
  intro _ code h q pins hp _; cases h; cases hp; exact ⟨rfl, rfl⟩

theorem CodecFields.enterRun (p : Port) : Statement (.enterRun p) := by
  intro _ code h q pins hp _; cases h; cases hp; exact ⟨rfl, rfl⟩

theorem CodecFields.enterWatch (p : Port) : Statement (.enterWatch p) := by
  intro _ code h q pins hp _; cases h; cases hp; exact ⟨rfl, rfl⟩

theorem CodecFields.enterStandby (p : Port) : Statement (.enterStandby p) := by
  intro _ code h q pins hp _; cases h; cases hp; exact ⟨rfl, rfl⟩

theorem CodecFields.cancelMode (p : Port) : Statement (.cancelMode p) := by
  intro _ code h q pins hp _; cases h; cases hp; exact ⟨rfl, rfl⟩

theorem CodecFields.setWakeTable (p : Port) (sources : List WakeField) : Statement (.setWakeTable p sources) := by
  intro wf code h q pins hp _; cases h; cases hp
  have hl : sources.length = 4 := by simp [Instr.wf, Instr.listsOk] at wf; omega
  refine ⟨Eq.trans (b := some (flagWidths 8)) rfl ?_, Eq.trans (b := some (.setWakeTable p (wakesOf _))) rfl ?_⟩
  · rw [Instr.fields, ← wake_widths, hl]
  · rw [Instr.fields, wakesOf_fields]

theorem CodecFields.portReset (p : Port) : Statement (.portReset p) := by
  intro _ code h q pins hp _; cases h; cases hp; exact ⟨rfl, rfl⟩

theorem CodecFields.openJob (p : Port) (number : Nat) (startDepth : Nat) (sampleInterval : Nat)
    : Statement (.openJob p number startDepth sampleInterval) := by
  intro _ code h q pins hp _; cases h; cases hp; exact ⟨rfl, rfl⟩

theorem CodecFields.closeJob (p : Port) (reference : Nat) : Statement (.closeJob p reference) := by
  intro _ code h q pins hp _; cases h; cases hp; exact ⟨rfl, rfl⟩

theorem CodecFields.readRod (p : Port) (serial : Nat) : Statement (.readRod p serial) := by
  intro _ code h q pins hp _; cases h; cases hp; exact ⟨rfl, rfl⟩

theorem CodecFields.readRodList (p : Port) (position : Nat) : Statement (.readRodList p position) := by
  intro _ code h q pins hp _; cases h; cases hp; exact ⟨rfl, rfl⟩

theorem CodecFields.readSlot (p : Port) (slot : Nat) : Statement (.readSlot p slot) := by
  intro _ code h q pins hp _; cases h; cases hp; exact ⟨rfl, rfl⟩

theorem CodecFields.readLaidOutList (p : Port) (position : Nat) : Statement (.readLaidOutList p position) := by
  intro _ code h q pins hp _; cases h; cases hp; exact ⟨rfl, rfl⟩

theorem CodecFields.readWearLimits (p : Port) : Statement (.readWearLimits p) := by
  intro _ code h q pins hp _; cases h; cases hp; exact ⟨rfl, rfl⟩

theorem CodecFields.readTally (p : Port) (pins : SensePins) : Statement (.readTally p pins) := by
  intro _ code h q pins' hp hs; cases h; cases hp
  obtain rfl := hs pins rfl
  exact ⟨rfl, rfl⟩

theorem CodecFields.readStack (p : Port) (position : Nat) : Statement (.readStack p position) := by
  intro _ code h q pins hp _; cases h; cases hp; exact ⟨rfl, rfl⟩

theorem CodecFields.readBha (p : Port) : Statement (.readBha p) := by
  intro _ code h q pins hp _; cases h; cases hp; exact ⟨rfl, rfl⟩

theorem CodecFields.readMakeupLimits (p : Port) : Statement (.readMakeupLimits p) := by
  intro _ code h q pins hp _; cases h; cases hp; exact ⟨rfl, rfl⟩

theorem CodecFields.readDepth (p : Port) : Statement (.readDepth p) := by
  intro _ code h q pins hp _; cases h; cases hp; exact ⟨rfl, rfl⟩

theorem CodecFields.readCirculation (p : Port) : Statement (.readCirculation p) := by
  intro _ code h q pins hp _; cases h; cases hp; exact ⟨rfl, rfl⟩

theorem CodecFields.readChannel (p : Port) (channel : Nat) : Statement (.readChannel p channel) := by
  intro _ code h q pins hp _; cases h; cases hp; exact ⟨rfl, rfl⟩

theorem CodecFields.readPumps (p : Port) : Statement (.readPumps p) := by
  intro _ code h q pins hp _; cases h; cases hp; exact ⟨rfl, rfl⟩

theorem CodecFields.readCasingProgram (p : Port) : Statement (.readCasingProgram p) := by
  intro _ code h q pins hp _; cases h; cases hp; exact ⟨rfl, rfl⟩

theorem CodecFields.readAnnulus (p : Port) : Statement (.readAnnulus p) := by
  intro _ code h q pins hp _; cases h; cases hp; exact ⟨rfl, rfl⟩

theorem CodecFields.readLagQueue (p : Port) (position : Nat) : Statement (.readLagQueue p position) := by
  intro _ code h q pins hp _; cases h; cases hp; exact ⟨rfl, rfl⟩

theorem CodecFields.readLog (p : Port) : Statement (.readLog p) := by
  intro _ code h q pins hp _; cases h; cases hp; exact ⟨rfl, rfl⟩

theorem CodecFields.readInterval (p : Port) (index : Nat) : Statement (.readInterval p index) := by
  intro _ code h q pins hp _; cases h; cases hp; exact ⟨rfl, rfl⟩

theorem CodecFields.readIntervalAtDepth (p : Port) (depth : Nat) : Statement (.readIntervalAtDepth p depth) := by
  intro _ code h q pins hp _; cases h; cases hp; exact ⟨rfl, rfl⟩

theorem CodecFields.readSamples (p : Port) (number : Nat) : Statement (.readSamples p number) := by
  intro _ code h q pins hp _; cases h; cases hp; exact ⟨rfl, rfl⟩

theorem CodecFields.readTicket (p : Port) (selector : Nat) (page : Nat)
    : Statement (.readTicket p selector page) := by
  intro _ code h q pins hp _; cases h; cases hp; exact ⟨rfl, rfl⟩

theorem CodecFields.readRateCard (p : Port) (group : Nat) : Statement (.readRateCard p group) := by
  intro _ code h q pins hp _; cases h; cases hp; exact ⟨rfl, rfl⟩

theorem CodecFields.readJobTotals (p : Port) (selector : Nat) : Statement (.readJobTotals p selector) := by
  intro _ code h q pins hp _; cases h; cases hp; exact ⟨rfl, rfl⟩

theorem CodecFields.readNotice (p : Port) : Statement (.readNotice p) := by
  intro _ code h q pins hp _; cases h; cases hp; exact ⟨rfl, rfl⟩

theorem CodecFields.readSummary (p : Port) : Statement (.readSummary p) := by
  intro _ code h q pins hp _; cases h; cases hp; exact ⟨rfl, rfl⟩

theorem CodecFields.readNoticeStatus (p : Port) : Statement (.readNoticeStatus p) := by
  intro _ code h q pins hp _; cases h; cases hp; exact ⟨rfl, rfl⟩

theorem CodecFields.readNoticeLevels (p : Port) : Statement (.readNoticeLevels p) := by
  intro _ code h q pins hp _; cases h; cases hp; exact ⟨rfl, rfl⟩

theorem CodecFields.readMode (p : Port) : Statement (.readMode p) := by
  intro _ code h q pins hp _; cases h; cases hp; exact ⟨rfl, rfl⟩

theorem CodecFields.readPortStatus (p : Port) : Statement (.readPortStatus p) := by
  intro _ code h q pins hp _; cases h; cases hp; exact ⟨rfl, rfl⟩

theorem CodecFields.readJob (p : Port) : Statement (.readJob p) := by
  intro _ code h q pins hp _; cases h; cases hp; exact ⟨rfl, rfl⟩

theorem CodecFields.readTransaction (p : Port) (clocked : Nat) : Statement (.readTransaction p clocked) := by
  intro _ code h; cases h

theorem CodecFields.badFrame (p : Port) (code : Nat) : Statement (.badFrame p code) := by
  intro _ code h; cases h

theorem CodecFields.unknownRequest (p : Port) (code : Nat) : Statement (.unknownRequest p code) := by
  intro _ code h; cases h

theorem CodecFields.deviceSecond (pins : SensePins) : Statement (.deviceSecond pins) := by
  intro _ code h; cases h

theorem CodecFields.makeupExpired : Statement (.makeupExpired) := by
  intro _ code h; cases h

theorem CodecFields.circStale : Statement (.circStale) := by
  intro _ code h; cases h

theorem CodecFields.permitFault (permit : Permit) (sense : Bool) : Statement (.permitFault permit sense) := by
  intro _ code h; cases h

theorem CodecFields.pendingModeTaken : Statement (.pendingModeTaken) := by
  intro _ code h; cases h

theorem CodecFields.sampleArrival : Statement (.sampleArrival) := by
  intro _ code h; cases h

theorem CodecFields.powerOn (storeValid : Bool) : Statement (.powerOn storeValid) := by
  intro _ code h; cases h

theorem CodecFields.resetAsserted : Statement (.resetAsserted) := by
  intro _ code h; cases h

theorem CodecFields.resetReleased (storeValid : Bool) : Statement (.resetReleased storeValid) := by
  intro _ code h; cases h

theorem CodecFields.powerLoss : Statement (.powerLoss) := by
  intro _ code h; cases h

end Sys2Proof.Laws
end

