-- ==== Sys2Proof/Laws/Requests.lean ====
section
/-! SUPPORT. Laws/Requests.lean: what handling a request comes to: its checks, its reply, its wake events; and what a step is. -/

namespace Sys2Proof.Machine

/-! ### Checks in order -/

@[simp] theorem firstFailing_nil : firstFailing [] = none := rfl

@[simp] theorem firstFailing_cons (b : Bool) (c : ReplyCode) (rest : List (Bool × ReplyCode)) :
    firstFailing ((b, c) :: rest) = if b then some c else firstFailing rest := rfl

@[simp] theorem firstFailing_append (xs ys : List (Bool × ReplyCode)) :
    firstFailing (xs ++ ys) = (firstFailing xs).or (firstFailing ys) := by
  induction xs with
  | nil => simp
  | cons x xs ih => obtain ⟨b, c⟩ := x; cases b <;> simp [ih]

/-- All the checks pass exactly when none refuses. -/
theorem firstFailing_eq_none_iff (checks : List (Bool × ReplyCode)) :
    firstFailing checks = none ↔ ∀ c ∈ checks, c.1 = false := by
  induction checks with
  | nil => simp
  | cons x xs ih => obtain ⟨b, c⟩ := x; cases b <;> simp [ih]

theorem checked_of_pass (checks : List (Bool × ReplyCode)) (s : State) (r : Response)
    (h : firstFailing checks = none) : checked checks s r = r := by simp [checked, h]

theorem checked_of_fail (checks : List (Bool × ReplyCode)) (s : State) (r : Response) (c : ReplyCode)
    (h : firstFailing checks = some c) : checked checks s r = refuse c s := by simp [checked, h]

/-- A checked request leaves the state as it was, or does what its rule says. -/
theorem checked_cases (checks : List (Bool × ReplyCode)) (s : State) (r : Response) :
    checked checks s r = r ∨ ∃ c, firstFailing checks = some c ∧ checked checks s r = refuse c s := by
  cases h : firstFailing checks with
  | none => exact .inl (checked_of_pass checks s r h)
  | some c => exact .inr ⟨c, rfl, checked_of_fail checks s r c h⟩

/-! ### A running part, and one that is held or dark -/

theorem whileRunning_running (f : State → State) (s : State) (h : s.power = .running) :
    whileRunning f s = .next (f s) := by simp [whileRunning, h]

theorem whileRunning_stopped (f : State → State) (s : State) (h : s.power ≠ .running) : whileRunning f s = .next s := by
  unfold whileRunning; split <;> simp_all

/-- What runs only while the part runs answers a next state: that of its effect, or the state unchanged. -/
theorem whileRunning_cases (f : State → State) (s t : State) (h : whileRunning f s = .next t) :
    s.power = .running ∧ t = f s ∨ s.power ≠ .running ∧ t = s := by
  unfold whileRunning at h; split at h <;> simp_all

/-- A transaction on a running part has its effect. -/
theorem writeTransaction_running (p : Port) (f : State → State) (s : State) (h : s.power = .running) :
    writeTransaction p f s = .next (f s) := by simp [writeTransaction, h]

theorem writeTransaction_held (p : Port) (f : State → State) (s : State) (h : s.power = .resetHeld) :
    writeTransaction p f s = .next (shiftZeros p s) := by simp [writeTransaction, h]

theorem writeTransaction_dark (p : Port) (f : State → State) (s : State) (h : s.power = .off ∨ s.power = .offResetHeld) :
    writeTransaction p f s = .next s := by rcases h with h | h <;> simp [writeTransaction, h]

/-- A write transaction answers a next state: that of its effect, the zeros shifted out, or the state unchanged. -/
theorem writeTransaction_cases (p : Port) (f : State → State) (s t : State) (h : writeTransaction p f s = .next t) :
    s.power = .running ∧ t = f s ∨ s.power = .resetHeld ∧ t = shiftZeros p s ∨
      (s.power = .off ∨ s.power = .offResetHeld) ∧ t = s := by
  unfold writeTransaction at h; split at h <;> simp_all

theorem request_running (p : Port) (code : Nat) (body : State → Response) (s : State) (h : s.power = .running) :
    request p code body s = .next (respond p code body s) := writeTransaction_running _ _ _ h

theorem request_held (p : Port) (code : Nat) (body : State → Response) (s : State) (h : s.power = .resetHeld) :
    request p code body s = .next (shiftZeros p s) := writeTransaction_held _ _ _ h

theorem request_dark (p : Port) (code : Nat) (body : State → Response) (s : State)
    (h : s.power = .off ∨ s.power = .offResetHeld) : request p code body s = .next s := writeTransaction_dark _ _ _ h

theorem moveRequest_running (p : Port) (code : Nat) (checks : State → List (Bool × ReplyCode)) (effect : State → State)
    (s : State) (h : s.power = .running) (pass : firstFailing (checks s) = none) :
    moveRequest p code checks effect s = .next (respond p code (fun s => taken (effect s)) s) := by
  simp [moveRequest, request_running, h, respond, judgedMove, pass]

/-! ### Wake events -/

theorem wakeEvent_awake (w : WakeSource) (s : State) (h : s.modes.mode ≠ .standby) : wakeEvent w s = s := by
  simp [wakeEvent, h]

theorem wakeEvents_awake (ws : List WakeSource) (s : State) (h : s.modes.mode ≠ .standby) : wakeEvents ws s = s := by
  induction ws with
  | nil => rfl
  | cons w ws ih => simpa [wakeEvents, wakeEvent_awake w s h] using ih

@[simp] theorem wakeEvents_nil (s : State) : wakeEvents [] s = s := rfl

@[simp] theorem wakeEvents_cons (w : WakeSource) (ws : List WakeSource) (s : State) :
    wakeEvents (w :: ws) s = wakeEvents ws (wakeEvent w s) := rfl

theorem requestWake_read (p : Port) (code : Nat) (h : 128 ≤ code) : requestWake p code = [] := by
  simp [requestWake, h]

/-- A request answered while the part is not in STANDBY when the reply is placed: its wake events have no effect. -/
theorem respond_awake (p : Port) (code : Nat) (body : State → Response) (s : State)
    (h : (body s).state.modes.mode ≠ .standby) :
    respond p code body s = placeReply p code (body s).code (body s).payload (body s).state :=
  wakeEvents_awake _ _ (by simpa using h)

/-! ### A response settled: one check at a time -/

/-- What `respond` makes of a response. -/
def settledBy (p : Port) (code : Nat) (r : Response) : State :=
  wakeEvents (requestWake p code ++ r.wakes) (placeReply p code r.code r.payload r.state)

theorem request_settled (p : Port) (code : Nat) (body : State → Response) (s : State) (h : s.power = .running) :
    request p code body s = .next (settledBy p code (body s)) := request_running p code body s h

@[simp] theorem settledBy_refuse (p : Port) (code : Nat) (c : ReplyCode) (s : State) :
    settledBy p code (refuse c s) = settled p code c [] s := by simp [settledBy, settled, refuse]

@[simp] theorem settledBy_taken (p : Port) (code : Nat) (s : State) :
    settledBy p code (taken s) = settled p code .ok [] s := by simp [settledBy, settled, taken]

@[simp] theorem settledBy_answered (p : Port) (code : Nat) (bs : List Byte) (s : State) :
    settledBy p code (answered bs s) = settled p code .ok bs s := by simp [settledBy, settled, answered]

@[simp] theorem settledBy_checked_nil (p : Port) (code : Nat) (s : State) (r : Response) :
    settledBy p code (checked [] s r) = settledBy p code r := rfl

@[simp] theorem settledBy_checked_cons (p : Port) (code : Nat) (b : Bool) (c : ReplyCode)
    (rest : List (Bool × ReplyCode)) (s : State) (r : Response) :
    settledBy p code (checked ((b, c) :: rest) s r) =
      if b then settled p code c [] s else settledBy p code (checked rest s r) := by
  cases b <;> simp [checked]

@[simp] theorem settledBy_judgedMove_nil (p : Port) (code : Nat) (s : State) (r : Response) :
    settledBy p code (judgedMove code [] s r) = settledBy p code r := rfl

@[simp] theorem settledBy_judgedMove_cons (p : Port) (code : Nat) (b : Bool) (c : ReplyCode)
    (rest : List (Bool × ReplyCode)) (s : State) (r : Response) :
    settledBy p code (judgedMove code ((b, c) :: rest) s r) =
      if b then settledBy p code (refuseMove code c s) else settledBy p code (judgedMove code rest s r) := by
  cases b <;> simp [judgedMove]

theorem moveRequest_settled (p : Port) (code : Nat) (checks : State → List (Bool × ReplyCode))
    (effect : State → State) (s : State) (h : s.power = .running) :
    moveRequest p code checks effect s =
      .next (settledBy p code (judgedMove code (checks s) s (taken (effect s)))) := request_settled _ _ _ _ h

theorem settledBy_ite (p : Port) (code : Nat) (c : Prop) [Decidable c] (x y : Response) :
    settledBy p code (if c then x else y) = if c then settledBy p code x else settledBy p code y := by
  split <;> rfl

/-! ### Checks as propositions -/

@[simp] theorem inRange_isNone (lo hi v : Nat) : (inRange lo hi v).isNone = true ↔ ¬ (lo ≤ v ∧ v ≤ hi) := by
  unfold inRange; split <;> simp_all

@[simp] theorem findRod_isSome (rods : List Rod) (serial : Nat) :
    (findRod rods serial).isSome = true ↔ ∃ r ∈ rods, r.serial = serial := by simp [findRod, List.find?_isSome]

@[simp] theorem findRod_isNone (rods : List Rod) (serial : Nat) :
    (findRod rods serial).isNone = true ↔ ¬ ∃ r ∈ rods, r.serial = serial := by
  rw [← findRod_isSome]; cases findRod rods serial <;> simp

/-! ### Reads -/

/-- A read whose checks pass places its reply, and does nothing else. -/
theorem readRequest_answers (p : Port) (code : Nat) (checks : State → List (Bool × ReplyCode))
    (payload : State → List Byte) (s : State) (hp : s.power = .running) (hc : 128 ≤ code)
    (h : firstFailing (checks s) = none) :
    readRequest p code checks payload s = .next (placeReply p code .ok (payload s) s) := by
  simp [readRequest, request_running, hp, respond, checked_of_pass, h, requestWake_read, hc, answered]

/-- A read that a check refuses places its reply, and does nothing else. -/
theorem readRequest_refused (p : Port) (code : Nat) (checks : State → List (Bool × ReplyCode))
    (payload : State → List Byte) (s : State) (c : ReplyCode) (hp : s.power = .running) (hc : 128 ≤ code)
    (h : firstFailing (checks s) = some c) :
    readRequest p code checks payload s = .next (placeReply p code c [] s) := by
  simp [readRequest, request_running, hp, respond, checked_of_fail _ _ _ _ h, requestWake_read, hc, refuse]

/-! ### Changes of mode -/

theorem setMode_same (m : Mode) (s : State) (h : m = s.modes.mode) : setMode m s = s := by simp [setMode, h]

theorem recheck_empty (s : State) (h : s.modes.request = none) : recheck s = s := by simp [recheck, h]

theorem recheck_waits (s : State) (r : PendingMode) (h : s.modes.request = some r) (w : pendingHolds s r = false) :
    recheck s = s := by simp [recheck, h, w]

@[simp] theorem drivePermits_levels (s : State) :
    (drivePermits s).tally.slips.drive = slipsLevel s.tally s.modes ∧
      (drivePermits s).tally.pump.drive = pumpLevel s.tally s.modes := ⟨rfl, rfl⟩

/-! ### A step -/

theorem step_empty (s : State) (h : s.pending = []) : step s = .next s := by simp [step, h]

theorem step_front (s : State) (c : Instr) (rest : List Instr) (h : s.pending = c :: rest) :
    step s = exec c (s.setPending rest) := by simp [step, h]

/-- A property that no command breaks, and that does not look at the queue, is kept by every step. -/
theorem step_keeps (P : State → Prop) (queue : ∀ s q, P s → P (s.setPending q))
    (cmd : ∀ i s t, P s → exec i s = .next t → P t) (s t : State) (h : P s) (hs : step s = .next t) : P t := by
  unfold step at hs
  split at hs
  · cases hs; exact h
  · exact cmd _ _ _ (queue _ _ h) hs

end Sys2Proof.Machine
end

