-- ==== Sys2Proof/Tests/Slice0.lean ====
section
/-! SUPPORT. Tests/Slice0.lean: the author's own tests: ill-formed commands refused, frames written out byte by byte, the manual's
worked examples, and for every statement of Certificates/Slice0/Obligations.lean that has hypotheses, a state and operands that
meet them. Expected values come from the manual (its section stands beside each) or from hand calculation by its rules. -/

namespace Sys2Proof.Tests

/- The tests are evaluated by the kernel one after another: taken at once, each would hold a thread of its own. -/
set_option Elab.async false

open Machine

/-! ### Helpers -/

/-- The state after a command. -/
def after (c : Instr) (s : State) : State :=
  match exec c s with
  | .next t => t
  | .fault r => nomatch r
  | .refused _ => s

/-- The state after several commands. -/
def afterAll (cs : List Instr) (s : State) : State := cs.foldl (fun s c => after c s) s

/-- The reply code in the slot of a port. -/
def replyOn (p : Port) (s : State) : Option Nat := (s.ports.get p).slot.map fun frame => (frame.getD 2 0).toNat

/-- Both sense inputs asserted. -/
def bothOn : SensePins := { slips := true, pump := true }

/-- A rod of 6,000 mm and OD 114 mm. -/
def rod (serial : Nat) : Rod :=
  { serial := serial, length := 6000, od := 114, rotatingSeconds := 0, jointsMade := 0, status := .ok }

/-- A bit of 300 mm and a collar of 18,000 mm (2.10, 5.3). -/
def bha : List Component :=
  [{ kind := .bit, length := 300, od := 250 }, { kind := .collar, length := 18000, od := 165 }]

/-- The casing program of 5.3. -/
def casing : List Section :=
  [{ base := 60000, bore := 305, kind := .cased }, { base := 600000, bore := 250, kind := .openHole }]

/-- The pump of 4.14. -/
def pump : Pump := { displacement := 9800, efficiency := 950, maxRate := 120 }

/-- Sample 19 of 5.11. -/
def sample19 : LagEntry :=
  { number := 19, origin := 148500, issued := 90, target := some 52414064, quality := .ok, strokesHeld := false }

/-- A sample that has arrived. -/
def sample (n : Nat) : Sample :=
  { number := n, origin := 120000 + 1500 * n, status := .returns, arrival := 80, caught := false }

/-- The single interval of a job that has drilled from 120,000 mm to 149,800 mm. -/
def wholeLog : Interval :=
  { freshInterval 120000 .bandB with drilledMm := 29800, drilledSeconds := 3576, segments := 119 }

/-- A ticket that has run for 100 seconds. -/
def ticket : Ticket :=
  { newTicket 3 0 120000 with
    lines := [{ newLine (.footage .bandB 0) with quantity := 29800 }, { newLine (.time .drilling) with quantity := 100 }] }

/-- The rig of 5.3 and 5.11 while it drills: RUN, a job open, 23 rods in the string, three in slots 96 to 98, the hole and the bit
at 149,800 mm, circulation ON. -/
def rig : State :=
  { State.reset with
    seconds := 5000, storeBlank := false,
    rack := { blankRack with
      rods := (List.range' 1 26).map rod,
      slots := (List.range 256).map fun n =>
        if 96 ≤ n ∧ n ≤ 98 then { blankSlot with occupant := some (n - 72) } else blankSlot },
    tally := { blankTally with
      bha := bha, stack := List.range' 1 23, pump := { withdrawnLine with drive := true } },
    depth := { blankDepth with
      block := some 6500, rotation := true, stringTop := some 6500, raw := some 149800, bit := some 149800,
      hole := some 149800, activity := .drilling },
    circ := { blankCirc with pump1 := pump, pumped := 48200000, status := .on, flowIn := 1117, reportSecond := some 4995 },
    lag := { blankLag with program := casing, queue := [sample19], nextSample := 20, returnsFlowOut := some 1080 },
    log := { blankLog with
      intervals := [wholeLog], samples := (List.range' 1 18).map sample,
      detector := { blankLog.detector with reference := some 500 } },
    meter := { blankMeter with
      openTicket := some ticket, closedDepth := 120000,
      totals := { zeroTotals with footage := zeroTotals.footage.set 8 29800, seconds := [100, 0, 0, 0, 0] } },
    modes := { blankModes with mode := .run },
    job := { isOpen := true, number := some 7, start := some 120000, interval := some 1500, clock := 100 } }

/-- The same rig in another mode. -/
def rigIn (m : Mode) : State := { rig with modes := { rig.modes with mode := m } }

/-- The same rig in the slips, the top drive latched. -/
def latched : State :=
  { rig with tally := { rig.tally with state := .inSlipsLatched, slips := { withdrawnLine with drive := true } } }

/-- The same rig in the slips, the top drive free. -/
def free : State :=
  { rig with tally := { rig.tally with state := .inSlipsFree, pump := withdrawnLine } }

/-- The same rig with rod 24 in the handling position, to be added. -/
def held : State :=
  { rig with
    rack := { rig.rack with slots := rig.rack.slots.set 96 blankSlot },
    tally := { rig.tally with state := .rodHeldAdd, handling := some 24, pump := withdrawnLine } }

/-- The rig after power was lost with rod 24 in the handling position. -/
def unresolved : State := { held with tally := { held.tally with state := .unresolved } }

/-- The rig of 2.10 before its first rod, in RUN, at device second 5,000. -/
def tripping : State :=
  { rig with
    rack := { rig.rack with rods := (List.range' 24 3).map rod }, tally := { rig.tally with stack := [] },
    job := blankJob, meter := blankMeter }

/-! ### Ill-formed commands (WellFormed.lean) -/

theorem test_wf_field_too_wide : (Instr.deleteRod .floor 65536).wf = false := by decide
theorem test_wf_field_widest : (Instr.deleteRod .floor 65535).wf = true := by decide
theorem test_wf_list_too_short : (Instr.rackSense .floor 0 (List.replicate 31 1)).wf = false := by decide +kernel
theorem test_wf_list_of_32 : (Instr.rackSense .floor 0 (List.replicate 32 1)).wf = true := by decide +kernel
theorem test_wf_frame_too_long :
    (Instr.setBha .floor (List.replicate 13 ⟨1, 100, 40⟩)).wf = false := by decide +kernel
theorem test_wf_unknown_code_listed : (Instr.unknownRequest .mud 32).wf = false := by decide +kernel

/-! ### Frames (10.8, 10.9) -/

theorem test_frame_block_report : receive .floor bothOn [6, 32, 160, 15, 1, 42] = some (.block .floor 4000 1) := by
  decide +kernel
theorem test_frame_damaged_check : receive .floor bothOn [6, 32, 160, 15, 1, 43] = some (.badFrame .floor 32) := by
  decide +kernel
theorem test_frame_dropped_byte : receive .floor bothOn [6, 32, 160, 15, 1] = some (.badFrame .floor 32) := by
  decide +kernel
theorem test_frame_reply_of_block : replyFrame 32 .ok false [] = [5, 32, 0, 0, 219] := by decide +kernel
theorem test_frame_rod : receive .floor bothOn [9, 1, 208, 7, 112, 23, 114, 1, 37] =
    some (.registerRod .floor 2000 6000 114 1) := by decide +kernel
theorem test_frame_tally : receive .floor bothOn [4, 18, 0, 234] = some (.releaseSlips .floor bothOn) := by decide +kernel
theorem test_frame_circulation : receive .mud bothOn [9, 42, 10, 0, 88, 2, 232, 3, 126] =
    some (.circulation .mud 10 0 600 1000) := by decide +kernel
theorem test_frame_lag : receive .mud bothOn [5, 49, 1, 0, 201] = some (.sampleCaught .mud 1) := by decide +kernel
theorem test_frame_strata : receive .record bothOn [9, 58, 3, 0, 1, 12, 0, 0, 173] =
    some (.classify .record 3 ⟨1, 12⟩ ⟨0, 0⟩) := by decide +kernel
theorem test_frame_metering : receive .record bothOn [5, 68, 252, 1, 186] = some (.closeTicket .record 508) := by
  decide +kernel
theorem test_frame_notices : receive .mud bothOn [7, 73, 1, 1, 28, 12, 134] = some (.setNoticeFilter .mud 1 1 28 12) := by
  decide +kernel
theorem test_frame_modes : receive .record bothOn [4, 80, 0, 172] = some (.enterSetup .record) := by decide +kernel
theorem test_frame_ports : receive .mud bothOn [4, 88, 0, 164] = some (.portReset .mud) := by decide +kernel
theorem test_frame_jobs : receive .record bothOn [11, 96, 7, 0, 64, 226, 1, 0, 208, 7, 148] =
    some (.openJob .record 7 123456 2000) := by decide +kernel
theorem test_no_table_word : decodeTableWord 8 32 = none := rfl

/-! ### Worked examples -/

/-- 5.3: the annular volume, and its four pieces. -/
theorem test_annular_volume : annularVolume rig 150300 = 7069272 ∧
    (piecesOf rig 150300).map pieceVolume = [0, 498672, 2799360, 3771240] := by decide +kernel

/-- 5.11: the increment (149,800, 150,300] issues sample 20 with its target. -/
theorem test_sample_issued : ((after (.block .floor 6000 1) rig).lag.queue.map fun e => (e.number, e.origin, e.target)) =
    [(19, 148500, some 52414064), (20, 150000, some 55269272)] := by decide +kernel

/-- 3.10, 5.11: the same report moves the hole and the bit. -/
theorem test_hole_advances : (after (.block .floor 6000 1) rig).depth.hole = some 150300 ∧
    (after (.block .floor 6000 1) rig).depth.bit = some 150300 := by decide +kernel

/-- 3.11: with circulation not ON, an excess of 1,000 mm is clamped and raises DEPTH_DISAGREE with A = 4. -/
theorem test_clamped_excursion :
    let s := { rig with circ := { rig.circ with status := .off }, ports := { freshPorts with
      record := { freshPort with filter1 := { enabled := true, mask := 31, pattern := 10 } } } }
    let t := after (.block .floor 5500 1) s
    t.depth.bit = some 149800 ∧ t.depth.disagree = true ∧
      t.ports.record.queue.map (fun r => (r.argA, r.argB)) = [(4, 150800)] := by decide +kernel

/-- 5.11, report 46: V_p passes the target of sample 19, which arrives as RETURNS. -/
theorem test_sample_arrives :
    let s := { rig with circ := { rig.circ with pumped := 52389500 } }
    let t := after (.circulation .mud 10 0 1080 500) s
    t.circ.pumped = 52482600 ∧ t.circ.flowIn = 1117 ∧ t.lag.queue = [] ∧
      (t.log.samples.getLast?.map fun r => (r.number, r.status)) = some (19, .returns) := by decide +kernel

/-- 4.14, reports 15 and 16: the loss streak reaches 16, LOSS is set, and 18 litres are charged. -/
theorem test_loss_zone :
    let s := { rig with circ := { rig.circ with lossStreak := 15 } }
    let t := after (.circulation .mud 10 0 900 500) s
    t.circ.loss = true ∧ t.circ.lossStreak = 16 ∧ t.circ.lastD = some 217 ∧
      t.log.intervals.map Interval.lossVolume = [18] := by decide +kernel

/-- 4.15, report 12: the failed sensor's counter reaches 96. -/
theorem test_failed_sensor :
    let s := { rig with circ := { rig.circ with flowOut := { freshChannel with counter := 88 } } }
    let t := after (.circulation .mud 10 0 4500 500) s
    t.circ.flowOut.counter = 96 ∧ t.circ.flowOut.state = .suspect ∧ t.circ.lastD = some (-3383) := by decide +kernel

/-- 2.10, steps 1 to 7: a rod tripped in, with an early confirmation. -/
theorem test_trip_in :
    let s5 := afterAll [.setSlips .floor, .unlatch .floor, .pickRod .floor 96, .stab .floor,
      .deviceSecond bothOn, .deviceSecond bothOn, .makeJoint .floor] tripping
    let s6 := afterAll [.deviceSecond bothOn, .deviceSecond bothOn, .deviceSecond bothOn, .deviceSecond bothOn,
      .makeJoint .floor] s5
    let s7 := after (.releaseSlips .floor bothOn) s6
    replyOn .floor s5 = some 8 ∧ s5.tally.earlyConfirms = 1 ∧ s5.tally.stab = some 5000 ∧
      replyOn .floor s6 = some 0 ∧ s6.tally.state = .inSlipsLatched ∧ stringLength s6 = 24300 ∧
      (s6.rack.rods.map Rod.jointsMade) = [1, 0, 0] ∧ s7.tally.state = .onBlock ∧ s7.tally.pump.drive = true := by
  decide +kernel

/-- 1.8: a bay brought under sensing. -/
theorem test_rack_sensing :
    let enables := [1, 1, 1] ++ List.replicate 29 0
    let presence := [1, 0, 1] ++ List.replicate 29 0
    let s := afterAll [.registerRod .floor 1101 6000 114 64, .registerRod .floor 1102 6000 114 65,
      .setSlotSensing .floor 2 enables, .rackSense .floor 2 presence] State.reset
    ([64, 65, 66].map fun n => ((slotAt s.rack n).sensed, (slotAt s.rack n).discrepancy)) =
      [(.present, false), (.absent, true), (.present, true)] := by decide +kernel

/-- 7.11: the rate card, the lines and the amounts. -/
def card711 : RateCard :=
  { bandRates := [4000, 6000, 8500, 12000], defaultBand := .bandB, multipliers := standardMultipliers,
    hourly := [9000, 15000, 18000, 12345, 0], prices := [0, 0, 4650, 0, 0, 0, 0, 0] }

def lines711 : List Line :=
  [{ newLine (.footage .bandC 0) with quantity := 5000 }, { newLine (.footage .bandC 1) with quantity := 12340 },
   { newLine (.time .drilling) with quantity := 30600 }, { newLine (.time .circulating) with quantity := 1850 },
   { newLine (.time .tripping) with quantity := 5000 }, { newLine (.time .idle) with quantity := 1000 },
   { newLine (.additive 2) with quantity := 14 }, { newLine .unwitnessed with quantity := 2200 }]

theorem test_ticket_priced :
    let t := priced card711 508 140650 212340 { newTicket 3 100000 195000 with lines := lines711 }
    t.lines.map Line.amount =
      [some 42500, some 115379, some 76500, some 9000, some 25200, some 3704, some 65100, none] ∧
      t.total = some 337383 ∧ t.saturated = false := by decide +kernel

/-- 7.12: the rebanding call across a closed ticket. -/
def rig712 : State :=
  { rig with
    meter := { blankMeter with
      card := card711, closedDepth := 212340,
      openTicket := some { newTicket 4 0 212340 with
        lines := [{ newLine (.footage .bandC 1) with quantity := 5660 }] },
      totals := { zeroTotals with footage := (zeroTotals.footage.set 16 12000).set 17 18000 } } }

theorem test_rebanding :
    let s := reband 197987 218000 .bandC .bandB rig712
    (s.meter.openTicket.map fun t => t.lines.map fun l => (l.key, l.quantity, l.cents)) =
      some [(.footage .bandB 1, 5660, 0), (.footage .bandC 1, 0, 0), (.adjustment .bandB, 14353, -38968),
            (.adjustment .bandC, -14353, 0)] ∧
    [8, 9, 16, 17].map (fun n => s.meter.totals.footage.getD n 0) = [2013, 18000, 9987, 0] := by decide +kernel

/-- 6.9: the interval before the three segments, and the log after them. -/
def log69 : State :=
  { rig with
    depth := { rig.depth with hole := some 142750 },
    log := { blankLog with
      intervals := [{ freshInterval 140000 .bandC with
        band := some .bandC, drilledMm := 2000, drilledSeconds := 240, segments := 8 }],
      detector := { blankLog.detector with reference := some 500 } } }

/-- 6.9: one segment drilled in `n` seconds. -/
def segmentIn (n e : Nat) (s : State) : State :=
  let g := modifyOpen (fun x => { x with drilledSeconds := x.drilledSeconds + n }) { s.log with segmentSeconds := n }
  logIncrement (e - 250) e [e] { s with log := g }

theorem test_drill_break :
    let s := segmentIn 10 142750 (segmentIn 12 142500 (segmentIn 30 142250 log69))
    s.log.intervals.map (fun x => (x.top, x.base, x.drilledMm, x.drilledSeconds, x.segments)) =
      [(140000, some 142250, 2250, 270, 9), (142250, none, 500, 22, 2)] ∧
      s.log.detector.reference = some 1363 ∧ s.log.detector.armed = false := by decide +kernel

theorem test_candidate :
    let s := segmentIn 12 142500 (segmentIn 30 142250 log69)
    s.log.detector.candidate = some { top := 142250, seconds := 12, kind := .fast, mean := 500 } ∧
      s.log.detector.reference = some 531 := by decide +kernel

/-- 6.10: the split of a closed interval. -/
theorem test_split :
    let x := { freshInterval 140000 .bandC with
      base := some 144000, drilledMm := 4000, drilledSeconds := 480, segments := 16 }
    let k := segmentsAbove 120000 150000 140000 141100
    k = 5 ∧ (upperPart 141100 k x).drilledSeconds = 132 ∧ (lowerPart 141100 k x).drilledSeconds = 348 ∧
      (lowerPart 141100 k x).segments = 11 := by decide +kernel

/-- 8.8: the mud controller's filters. -/
theorem test_filters :
    let f := { enabled := true, mask := 28, pattern := 12 : Filter }
    [NoticeKind.channelSuspect, .circStale, .sampleDue, .sampleMissed, .drillBreak, .depthLimit].map f.takes =
      [true, true, true, true, false, false] := by decide +kernel

/-- 8.9: the full floor queue, first two events. -/
theorem test_full_queue :
    let record := fun k level => { kind := k, level := level, argA := 0, argB := 0, jobClock := 0 : Notice }
    let x := { freshPort with
      filter1 := { enabled := true, mask := 31, pattern := 20 },
      queue := List.replicate 2 (record .earlyMakeup 1) ++ List.replicate 14 (record .rodWorn 3) }
    let y := fileNotice .floor (record .tallySequence 1) x
    let z := fileNotice .floor (record .rodWorn 3) y
    y.queue.map Notice.kind = List.replicate 2 .earlyMakeup ++ [.tallySequence] ++ List.replicate 13 .rodWorn ∧
      y.lost = 1 ∧ z.queue = y.queue ∧ z.lost = 2 := by decide +kernel

/-- 9.10: the report that makes circulation OFF takes the pending request. -/
theorem test_pending_taken :
    let s := { rig with modes := { rig.modes with request := some { target := .setup, origin := .record } } }
    let t := after (.circulation .mud 0 0 0 500) s
    t.modes.mode = .setup ∧ t.modes.request = none ∧ t.lag.queue = [] ∧
      (t.log.samples.getLast?.map fun r => (r.number, r.status)) = some (19, .abandoned) := by decide +kernel

/-- 11.8: power lost in the middle of a job. -/
theorem test_power_event :
    let t := afterAll [.powerLoss, .powerOn true] latched
    t.modes.mode = .watch ∧ (t.meter.openTicket.map Ticket.powerEvents) = some 1 ∧ t.tally.slips.drive = true ∧
      t.tally.pump.drive = true ∧ t.depth.bit = none ∧ t.circ.status = .stale ∧ t.job.clock = 100 := by decide +kernel

/-- 11.8, last paragraph: with a rod in the handling position. -/
theorem test_power_unresolved :
    let t := afterAll [.powerLoss, .powerOn true] held
    t.tally.state = .unresolved ∧ t.tally.pump.drive = false ∧
      t.ports.floor.queue.map (fun r => (r.kind, r.argA)) = [(.rodUnresolved, 24)] := by decide +kernel

/-! ### Witnesses: a state and operands that meet the hypotheses of each statement, and what the command comes to there -/

/-- StepKeeps…: a state with a job open that meets every condition, and takes a command. -/
theorem test_witness_RodsPlaced : RodsPlaced rig ∧ step { rig with pending := [.layOutRod .floor] } =
    exec (.layOutRod .floor) rig := ⟨by decide +kernel, rfl⟩
theorem test_witness_PermitsFollow : PermitsFollow held ∧ PermitsFollow latched := by decide +kernel
theorem test_witness_BitWithinHole : BitWithinHole rig := by decide +kernel
theorem test_witness_AlarmsApart : AlarmsApart { rig with circ := { rig.circ with gain := true } } := by decide +kernel
theorem test_witness_SamplesAccounted : SamplesAccounted rig := by decide +kernel
theorem test_witness_LogCoversHole : LogCoversHole rig := by decide +kernel
theorem test_witness_SecondsAccounted : SecondsAccounted rig := by decide +kernel
theorem test_witness_NoticesInOrder : NoticesInOrder (after (.powerOn true) held) := by decide +kernel
theorem test_witness_PendingWaits :
    PendingWaits { rig with modes := { rig.modes with request := some { target := .setup, origin := .record } } } := by
  decide +kernel
theorem test_witness_EmptyQueue : rig.pending = [] := rfl

theorem test_witness_ReceiveInvertsEncode : (Instr.releaseSlips .floor bothOn).wf = true ∧
    (Instr.releaseSlips .floor bothOn).encode = some [4, 18, 0, 234] ∧
    (Instr.releaseSlips .floor bothOn).pins = some bothOn := by decide +kernel

theorem test_witness_ReceiveRefusesBadFrames :
    receive .mud bothOn [4, 42, 0] = some (.badFrame .mud 42) ∧
    receive .mud bothOn [5, 42, 0, 0, 0] = some (.badFrame .mud 42) ∧
    receive .mud bothOn [4, 99, 0, 153] = some (.unknownRequest .mud 99) ∧
    receive .mud bothOn [4, 42, 0, 210] = some (.badFrame .mud 42) := by decide +kernel

theorem test_witness_RodRegisterRequests :
    replyOn .floor (after (.registerRod .floor 65535 9999 200 255) (rigIn .setup)) = some 0 ∧
    replyOn .floor (after (.registerRod .floor 65535 9999 200 256) (rigIn .setup)) = some 17 ∧
    replyOn .floor (after (.registerRod .floor 26 9999 200 255) (rigIn .setup)) = some 14 ∧
    replyOn .floor (after (.deleteRod .floor 1) (rigIn .setup)) = some 20 ∧
    replyOn .floor (after (.deleteRod .floor 27) (rigIn .setup)) = some 15 := by decide +kernel

/-- The rig in SETUP with rod 24 laid out. -/
def laidOutRig : State :=
  let s := afterAll [.layOutRod .floor] held
  { s with modes := { s.modes with mode := .setup } }

theorem test_witness_RestoreRodAndWearLimits :
    replyOn .floor (after (.restoreRod .floor 24 0) laidOutRig) = some 0 ∧
    replyOn .floor (after (.restoreRod .floor 24 97) laidOutRig) = some 11 ∧
    replyOn .floor (after (.deleteRod .floor 24) laidOutRig) = some 0 ∧
    (after (.setWearLimits .floor 5000 100) laidOutRig).rack.jointLimit = 5000 := by decide +kernel

theorem test_witness_SlotSensingRequests :
    replyOn .floor (after (.setSlotSensing .floor 7 (List.replicate 32 1)) (rigIn .setup)) = some 0 ∧
    replyOn .floor (after (.rackSense .floor 8 (List.replicate 32 0)) rig) = some 17 ∧
    replyOn .floor (after (.rackSense .floor 3 (List.replicate 32 0)) rig) = some 0 := by decide +kernel

theorem test_witness_TallyConfigurationRequests :
    replyOn .floor (after (.setBha .floor [⟨0, 100, 700⟩]) { rigIn .setup with tally := blankTally }) = some 0 ∧
    replyOn .floor (after (.setBha .floor [⟨0, 100, 700⟩]) (rigIn .setup)) = some 20 ∧
    replyOn .floor (after (.setBha .floor [⟨1, 100, 700⟩]) (rigIn .setup)) = some 17 ∧
    replyOn .floor (after (.setMakeupLimits .floor 30 31) (rigIn .setup)) = some 0 ∧
    replyOn .floor (after (.setMakeupLimits .floor 30 30) (rigIn .setup)) = some 17 := by decide +kernel

theorem test_witness_SlipsRequests :
    replyOn .floor (after (.setSlips .floor) rig) = some 0 ∧
    replyOn .floor (after (.setSlips .floor) latched) = some 7 ∧
    replyOn .floor (after (.releaseSlips .floor bothOn) latched) = some 0 ∧
    replyOn .floor (after (.releaseSlips .floor ⟨false, true⟩) latched) = some 7 := by decide +kernel

theorem test_witness_UnlatchLatchAndStab :
    replyOn .floor (after (.unlatch .floor) latched) = some 0 ∧
    replyOn .floor (after (.latch .floor) free) = some 9 ∧
    replyOn .floor (after (.latch .floor) { free with tally := { free.tally with stab := some 4997 } }) = some 8 ∧
    replyOn .floor (after (.latch .floor) { free with tally := { free.tally with stab := some 4996 } }) = some 0 ∧
    (after (.stab .floor) free).tally.stab = some 5000 := by decide +kernel

theorem test_witness_BreakAndMakeJoint :
    (after (.breakJoint .floor) latched).tally.handling = some 23 ∧ held.tally.handling = some 24 ∧
    replyOn .floor (after (.makeJoint .floor) { held with tally := { held.tally with stab := some 4996 } }) = some 0 := by
  decide +kernel

theorem test_witness_PickRackAndLayOut :
    replyOn .floor (after (.pickRod .floor 98) free) = some 0 ∧ replyOn .floor (after (.pickRod .floor 99) free) = some 10 ∧
    held.tally.handling = some 24 ∧ replyOn .floor (after (.rackRod .floor 255) held) = some 0 ∧
    replyOn .floor (after (.rackRod .floor 97) held) = some 11 ∧
    replyOn .floor (after (.layOutRod .floor) held) = some 0 := by decide +kernel

theorem test_witness_ResolveRodByDestination : unresolved.tally.handling = some 24 ∧
    (after (.resolveRod .floor 0 0) unresolved).tally.state = .inSlipsLatched ∧
    (after (.resolveRod .floor 1 96) unresolved).tally.state = .inSlipsFree ∧
    (after (.resolveRod .floor 2 0) unresolved).rack.laidOut = [24] ∧
    replyOn .floor (after (.resolveRod .floor 3 0) unresolved) = some 17 := by decide +kernel

theorem test_witness_ExpiryAndStaleness :
    (after .makeupExpired { held with tally := { held.tally with stab := some 4880 } }).tally.stab = none ∧
    (after .makeupExpired { held with tally := { held.tally with stab := some 4881 } }).tally.stab = some 4881 ∧
    (after .circStale { rig with circ := { rig.circ with reportSecond := some 4990 } }).circ.status = .stale ∧
    (after .circStale { rig with circ := { rig.circ with reportSecond := some 4991 } }).circ.status = .on := by
  decide +kernel

theorem test_witness_PermitReadbackAndFault :
    let s := after (.deviceSecond ⟨true, true⟩) rig
    s.tally.slips.mismatch = 1 ∧ (after (.permitFault .slips true) s).tally.slips.fault = true ∧
    (after (.permitFault .slips false) s).tally.slips.fault = false ∧
    (after (.permitFault .pump false) (after (.deviceSecond ⟨false, false⟩) rig)).tally.pump.fault = true := by
  decide +kernel

theorem test_witness_BlockAndDownRequests :
    replyOn .floor (after (.block .floor 40000 1) rig) = some 0 ∧
    replyOn .floor (after (.block .floor 40001 1) rig) = some 17 ∧
    (after (.downStart .record) rig).depth.down = true ∧ (after (.downEnd .floor) rig).depth.down = false := by
  decide +kernel

theorem test_witness_DepthComputationByRule :
    State.reset.depth.stringTop = none ∧ rig.depth.stringTop = some 6500 ∧ lengthOfString rig = 156300 ∧
    failingConditions rig = 0 ∧
    (depthCompute { rig with depth := { rig.depth with stringTop := some 156301 } }).depth.aboveTable = true ∧
    (depthCompute { rig with depth := { rig.depth with hole := some 1600000, stringTop := some (-1443701) } }).depth.limit =
      true ∧
    (depthCompute { rig with depth := { rig.depth with hole := some 1599900, stringTop := some (-1443701) } }).depth.hole =
      some 1600000 ∧
    (depthCompute { rigIn .setup with depth := { rig.depth with stringTop := some 5999 } }).depth.disagree = true ∧
    (depthCompute { rigIn .setup with depth := { rig.depth with stringTop := some 6000 } }).depth.disagree = false := by
  decide +kernel

theorem test_witness_DeviceSecond :
    let t := after (.deviceSecond ⟨false, true⟩) rig
    rig.power = .running ∧ rig.meter.openTicket = some ticket ∧ t.depth.activity = .drilling ∧ t.job.clock = 101 ∧
    t.seconds = 5001 ∧ t.meter.totals.seconds = [101, 0, 0, 0, 0] := by decide +kernel

theorem test_witness_IncrementReachesThreeBlocks :
    (handIncrement 149800 150300 rig).meter.totals.footage.getD 8 0 = 30300 ∧
    segmentEnds 120000 149800 150300 = [150000, 150250] ∧ segmentEnds 120000 150250 150250 = [] ∧
    (logIncrement 149800 150100 [150000] rig).log.intervals.map (fun x => (x.drilledMm, x.segments)) =
      [(30100, 120)] := by decide +kernel

theorem test_witness_RodsCountedAndWorn :
    (rig.rack.rods.map Rod.serial).Pairwise (· < ·) ∧ rod 24 ∈ rig.rack.rods ∧ rod 23 ∈ rig.rack.rods ∧
    (let t := countJoint [24, 23] { rig with rack := { rig.rack with jointLimit := 1 } }
     (t.rack.rods.drop 22).map Rod.status = [.worn, .worn, .ok, .ok]) ∧
    (let t := countJoint [24] { rig with rack := { rig.rack with jointLimit := 1 } }
     (t.rack.rods.drop 22).map Rod.status = [.ok, .worn, .ok, .ok]) := by decide +kernel

/-- R9: the wear counts of a second, with rotation on and off: two rods of the stack wear out, the lower one noted first. -/
theorem test_witness_WearOfOneSecond :
    let old := fun r : Rod => if r.serial = 5 ∨ r.serial = 3 then { r with jointsMade := 500 } else r
    let s := { rig with
      rack := { rig.rack with rods := rig.rack.rods.map old },
      ports := { freshPorts with floor := { freshPort with filter1 := { enabled := true, mask := 31, pattern := 20 } } } }
    rig.depth.rotation = true ∧ s.tally.stack.Nodup ∧
    ((wearSecond s).rack.rods.take 5).map Rod.status = [.ok, .ok, .worn, .ok, .worn] ∧
    (wearSecond s).ports.floor.queue.map (fun r => (r.kind, r.argA)) = [(.rodWorn, 3), (.rodWorn, 5)] ∧
    wearSecond { s with depth := { s.depth with rotation := false } } = { s with depth := { s.depth with rotation := false } } := by
  decide +kernel

theorem test_witness_CirculationAndCasingConfiguration :
    replyOn .mud (after (.setPump .mud 2 40000 500 10) (rigIn .setup)) = some 0 ∧
    replyOn .mud (after (.setPump .mud 2 999 500 10) (rigIn .setup)) = some 17 ∧
    replyOn .mud (after (.setCirculationLimits .mud 10 1000 100 10000) (rigIn .setup)) = some 0 ∧
    replyOn .record (after (.setCasingProgram .record [⟨1, 700, 0⟩, ⟨1600000, 50, 1⟩]) (rigIn .setup)) = some 0 ∧
    replyOn .record (after (.setCasingProgram .record [⟨5, 700, 0⟩, ⟨5, 50, 1⟩]) (rigIn .setup)) = some 17 := by
  decide +kernel

theorem test_witness_CirculationReport :
    replyOn .mud (after (.circulation .mud 10 0 6000 60000) rig) = some 0 ∧
    replyOn .mud (after (.circulation .mud 10 0 6001 0) rig) = some 17 ∧
    replyOn .mud (after (.circulation .mud 10 0 0 60001) rig) = some 17 ∧
    replyOn .floor (after (.circulation .floor 10 0 0 0) rig) = some 5 ∧
    (∀ x ∈ [rig.circ.p1, rig.circ.p2, rig.circ.flowOut, rig.circ.pit], x.counter ≤ 256) := by decide +kernel

/-- R66, R81: a report with strokes, taken in STANDBY: the stages, the reply, then the wake event. -/
theorem test_witness_ReportStages :
    let s := { rigIn .standby with modes := { rig.modes with mode := .standby, circulation := { wake := true, notice := false } } }
    let t := reportStages 10 0 1080 500 s
    t.circ.flowIn = 1117 ∧ t.circ.lastD = some 37 ∧ t.modes.mode = .standby ∧
    (after (.circulation .mud 10 0 1080 500) s).modes.mode = .watch := by decide +kernel

theorem test_witness_ChannelNotices :
    channelAfter false 0 { freshChannel with counter := 88 } = { freshChannel with counter := 96, state := .suspect } ∧
    channelAfter false 0 { freshChannel with counter := 248, state := .suspect } =
      { freshChannel with counter := 256, state := .rejected } ∧
    channelAfter true 7 { freshChannel with state := .rejected, recovery := 127 } = { freshChannel with last := some 7 } := by
  decide +kernel

theorem test_witness_BalanceStreaksAndAlarms :
    let c := fun (loss gain balanced : Nat) =>
      { rig.circ with lossStreak := loss, gainStreak := gain, balancedStreak := balanced }
    (updateAlarms { rig with circ := c 16 0 0 }).circ.loss = true ∧
    (updateAlarms { rig with circ := c 0 16 0 }).circ.gain = true ∧
    (updateAlarms { rig with circ := { c 0 0 16 with loss := true } }).circ.loss = false ∧
    (updateAlarms { rig with circ := { c 0 0 16 with gain := true } }).circ.gain = false ∧
    updateAlarms { rig with circ := { c 0 16 0 with gain := true } } = { rig with circ := { c 0 16 0 with gain := true } } ∧
    (updateAlarms { rig with circ := c 15 0 0 }).circ.loss = false := by decide +kernel

theorem test_witness_ReportTellsStrataAndLag :
    rig.log.intervals[indexAt rig.log.intervals (bitDepthGiven rig)]? = some wholeLog ∧ rig.job.isOpen = true ∧
    rig.circ.loss = false ∧ wholeLog.lossVolume ≤ 4294967295 ∧ State.reset.job.isOpen = false ∧
    (tellStrata none 5 true rig).log.intervals.map Interval.strike =
      [some { depth := 149800, yieldRate := none, source := .gain }] := by decide +kernel

theorem test_witness_AdditiveOnTicketAndTotals :
    replyOn .mud (after (.additive .mud 7 255) rig) = some 0 ∧ replyOn .mud (after (.additive .mud 8 255) rig) = some 17 ∧
    (after (.additive .mud 7 255) rig).meter.totals.units.getD 7 0 = 255 := by decide +kernel

theorem test_witness_SamplesCaughtAndArrived :
    replyOn .mud (after (.sampleCaught .mud 19) rig) = some 0 ∧ replyOn .mud (after (.sampleCaught .mud 18) rig) = some 2 ∧
    replyOn .mud (after (.sampleCaught .mud 20) rig) = some 15 ∧
    (after .sampleArrival { rig with circ := { rig.circ with pumped := 52414064 } }).lag.queue = [] ∧
    (after .sampleArrival { rig with circ := { rig.circ with pumped := 52414063 } }).lag.queue = [sample19] ∧
    (let s := { rig with
       circ := { rig.circ with pumped := 52414064 },
       lag := { rig.lag with queue := [sample19, { sample19 with number := 20 }, { sample19 with number := 21, target := none }] } }
     (releaseArrivals s).lag.queue.map LagEntry.number = [21] ∧
     (releaseArrivals s).log.samples.map Sample.number = List.range' 1 20) := by decide +kernel

/-- A short string in the hole of 5.3: a bit of 300 mm and a collar of 200 mm. -/
def shortString : State :=
  { rig with tally := { rig.tally with
    bha := [{ kind := .bit, length := 300, od := 250 }, { kind := .collar, length := 200, od := 165 }], stack := [] } }

/-- R88, R89: the pieces of a short string, from the bit upward, with open annulus above it. -/
theorem test_witness_PiecesFromTheBit :
    (rig.lag.program.map Section.base).Pairwise (· < ·) ∧
    piecesOf shortString 600 = [(300, 250, 305), (200, 165, 305), (100, 0, 305)] ∧
    odAbove shortString 299 = 250 ∧ odAbove shortString 300 = 165 ∧ odAbove shortString 500 = 0 ∧
    boreAt casing 59999 = 305 ∧ boreAt casing 60000 = 250 ∧ boreAt casing 600000 = 250 := by decide +kernel

/-- R90: BELOW_PROGRAM is raised where the bit is below the program. -/
theorem test_witness_BelowProgram :
    let s := { rig with lag := { rig.lag with program := [⟨60000, 305, .cased⟩] }, ports := { freshPorts with
      record := { freshPort with filter1 := { enabled := true, mask := 31, pattern := 18 } } } }
    (issueSamples 149800 150300 s).ports.record.queue.map (fun r => (r.kind, r.argA, r.argB)) =
      [(.belowProgram, 1, 149800)] := by decide +kernel

theorem test_witness_MarksIssueSamples :
    let s := { rig with job := { rig.job with start := some 0, interval := some 500 } }
    let full := { s with lag := { s.lag with queue := List.replicate 63 (s.lag.queue.headD ⟨1, 0, 0, none, .ok, false⟩) } }
    s.job.start = some 0 ∧ s.job.interval = some 500 ∧
    (issueSamples 499 1000 s).lag.queue.map LagEntry.origin = [148500, 500, 1000] ∧
    (issueSamples 499 1000 full).lag.queue.length = 64 ∧
    ((issueSamples 499 1000 full).log.samples.filter fun r => r.status == .missed).map Sample.origin = [1000] ∧
    (issueSamples 149800 150300 { rig with depth := { rig.depth with bit := some 150300 } }).lag.queue.length = 2 := by
  decide +kernel

theorem test_witness_DetectorConfirmAndStrikeRequests :
    replyOn .record (after (.setDrillBreak .record 2 400) rig) = some 0 ∧
    replyOn .record (after (.setDrillBreak .record 3 400) rig) = some 17 ∧
    replyOn .record (after (.reArm .record) rig) = some 0 ∧
    replyOn .record (after (.confirm .record 0) rig) = some 0 ∧
    replyOn .record (after (.confirm .record 1) rig) = some 15 ∧
    replyOn .record (after (.clearWaterStrike .record 0) rig) = some 0 ∧
    rig.log.intervals[indexAt rig.log.intervals 149800]? = some wholeLog ∧
    replyOn .record (after (.waterStrike .record 149800 ⟨1, 5000⟩) rig) = some 0 ∧
    replyOn .record (after (.waterStrike .record 149801 ⟨0, 0⟩) rig) = some 17 := by decide +kernel

theorem test_witness_IntervalFoundContainsDepth : LogCoversHole rig ∧ rig.job.start = some 120000 ∧
    indexAt rig.log.intervals 120000 = 0 := by decide +kernel

theorem test_witness_ClassifyReclassifies :
    ((after (.classify .record 0 ⟨1, 250⟩ ⟨1, 3⟩) rig).log.intervals.map fun x => (x.lithology, x.band, x.posted)) =
      [(some 250, some .bandD, .bandD)] ∧
    replyOn .record (after (.classify .record 0 ⟨1, 251⟩ ⟨0, 0⟩) rig) = some 17 ∧
    (∀ v : Nat, v ≤ 4 → fieldRefused ⟨1, v⟩ 0 3 → v = 4) := by
  refine ⟨by decide +kernel, by decide +kernel, ?_⟩
  intro v hv h
  rcases h with h | h
  · simp at h
  · simp at h; omega

/-- The rig with its log split at 130,000 mm. -/
def splitRig : State := after (.split .record 130000) rig

theorem test_witness_MergeAndSplitIntervals :
    rig.job.start = some 120000 ∧ rig.depth.hole = some 149800 ∧
    rig.log.intervals[indexAt rig.log.intervals 149800]? = some wholeLog ∧
    replyOn .record splitRig = some 0 ∧ splitRig.log.intervals.map Interval.top = [120000, 130000] ∧
    replyOn .record (after (.split .record 120000) rig) = some 17 ∧
    replyOn .record (after (.split .record 149800) rig) = some 0 ∧
    replyOn .record (after (.merge .record 0) splitRig) = some 17 ∧
    replyOn .record (after (.merge .record 2) splitRig) = some 15 ∧
    (after (.merge .record 1) splitRig).log.intervals.map Interval.top = [120000] := by decide +kernel

theorem test_witness_SegmentsCompletedAndJudged :
    rig.log.intervals[indexAt rig.log.intervals (149750 - 250)]? = some wholeLog ∧ rig.log.intervals = [] ++ [wholeLog] ∧
    (completeSegment 149750 rig).log.lastSegment = some { top := 149500, seconds := 0, rate := 15000 } := by
  decide +kernel

theorem test_witness_FootageAccruesByTier :
    rig.meter.openTicket = some ticket ∧ rig.meter.totals.footage.length = 32 ∧
    (accrueFootage .bandB 199990 200010 rig).meter.totals.footage.take 10 =
      [0, 0, 0, 0, 0, 0, 0, 0, 29810, 10] := by decide +kernel

theorem test_witness_RebandingByRule :
    rig712.meter.openTicket.isSome = true ∧ rig712.job.start = some 120000 ∧ rig712.meter.totals.footage.length = 32 := by
  decide +kernel

theorem test_witness_RateCardWrites :
    let s := { rigIn .setup with meter := blankMeter, job := blankJob }
    replyOn .record (after (.setBandRates .record [0, 100000, 1, 1] 3) s) = some 0 ∧
    replyOn .record (after (.setBandRates .record [0, 100001, 1, 1] 3) s) = some 17 ∧
    (after (.setTierMultipliers .record [0, 0, 0, 0, 0, 0, 500, 4000]) s).meter.card.multipliers =
      [1000, 1100, 1250, 1400, 1600, 1800, 500, 4000] ∧
    replyOn .record (after (.setHourlyRates .record [0, 0, 0, 0, 1000000]) s) = some 0 ∧
    replyOn .record (after (.setAdditivePrices .record (List.replicate 8 1000000)) s) = some 0 ∧
    replyOn .record (after (.setHourlyRates .record [0, 0, 0, 0, 0]) (rigIn .setup)) = some 19 := by decide +kernel

/-- The rig after one ticket was closed. -/
def closedRig : State := after (.closeTicket .record 508) rig

theorem test_witness_TicketsClosedAndAcknowledged :
    rig.meter.openTicket = some ticket ∧ replyOn .record closedRig = some 0 ∧
    (closedRig.meter.openTicket.map Ticket.number) = some 4 ∧ closedRig.meter.closedDepth = 149800 ∧
    replyOn .record (after (.acknowledgeTicket .record 3) closedRig) = some 0 ∧
    replyOn .record (after (.acknowledgeTicket .record 4) closedRig) = some 16 ∧
    replyOn .record (after (.acknowledgeTicket .record 3) rig) = some 15 := by decide +kernel

theorem test_witness_NoticeAndPortRequests :
    let s := after (.powerOn true) held
    replyOn .record (after (.setNoticeLevels .record (List.replicate 25 3)) (rigIn .setup)) = some 0 ∧
    replyOn .mud (after (.setNoticeFilter .mud 2 1 31 31) rig) = some 0 ∧
    replyOn .mud (after (.setNoticeFilter .mud 2 2 31 31) rig) = some 17 ∧
    (after (.readNotice .floor) s).ports.floor.queue = [] ∧
    (after (.readSummary .floor) s).ports.floor.summary = List.replicate 25 false ∧
    (after (.portReset .floor) s).ports.floor.queue = [] := by decide +kernel

theorem test_witness_ModeControlRequests :
    replyOn .record (after (.enterSetup .record) rig) = some 1 ∧
    replyOn .record (after (.enterRun .record) (rigIn .setup)) = some 0 ∧
    replyOn .record (after (.enterRun .record) State.reset) = some 18 ∧
    replyOn .record (after (.enterWatch .record) rig) = some 0 ∧
    replyOn .mud (after (.enterStandby .mud) rig) = some 1 ∧
    replyOn .record (after (.cancelMode .record) rig) = some 15 ∧
    replyOn .mud (afterAll [.enterStandby .mud, .cancelMode .mud] rig) = some 0 ∧
    replyOn .record (after (.setWakeTable .record [⟨1, 0⟩, ⟨0, 1⟩, ⟨1, 1⟩, ⟨0, 0⟩]) (rigIn .setup)) = some 0 ∧
    replyOn .record (after (.setWakeTable .record [⟨2, 0⟩, ⟨0, 1⟩, ⟨1, 1⟩, ⟨0, 0⟩]) (rigIn .setup)) = some 17 := by
  decide +kernel

theorem test_witness_ModeChangesAndPendingTaken :
    let s := { held with
      circ := { held.circ with status := .off }, modes := { held.modes with request := some { target := .setup, origin := .mud } } }
    rig.modes.mode ≠ .setup ∧ (setMode .setup rig).lag.queue = [] ∧
    (after .pendingModeTaken s).modes.mode = .run ∧
    (after .pendingModeTaken { s with tally := rig.tally }).modes.mode = .setup := by decide +kernel

theorem test_witness_WakeEventsByRule :
    let s := { rigIn .standby with modes := { rig.modes with mode := .standby, floorActivity := { wake := true, notice := true } } }
    (wakeEvent .floorActivity s).modes.mode = .watch ∧ (wakeEvent .circulation s).modes.mode = .standby := by decide +kernel

theorem test_witness_TransactionsAndReplies :
    let s := after (.block .floor 6500 1) rig
    s.ports.floor.slot = some [5, 32, 0, 0, 219] ∧ (after (.readTransaction .floor 5) s).ports.floor.slot.isSome = true ∧
    (after (.readTransaction .floor 6) s).ports.floor.slot = none ∧
    (after (.readTransaction .floor 6) s).ports.floor.dataOut = [5, 32, 0, 0, 219] ∧
    (after (.readTransaction .mud 3) s).ports.mud.dataOut = [0, 0] ∧
    (after (.readTransaction .floor 3) (after .resetAsserted s)).ports.floor.dataOut = [0, 0] ∧
    (after (.downStart .floor) (after (.readTransaction .floor 6) s)).ports.floor.dataOut = [] ∧
    (after (.badFrame .mud 9) s).ports.mud.frameErrors = 1 ∧ (after (.unknownRequest .mud 9) s).ports.mud.frameErrors = 0 ∧
    replyOn .mud (after (.unknownRequest .mud 9) s) = some 4 := by decide +kernel

theorem test_witness_JobsOpenedAndClosed :
    let s := { rigIn .setup with meter := blankMeter, job := blankJob }
    replyOn .record (after (.openJob .record 65535 1500000 5000) s) = some 0 ∧
    replyOn .record (after (.openJob .record 65535 1500001 5000) s) = some 17 ∧
    replyOn .record (after (.openJob .record 1 0 500) (rigIn .setup)) = some 20 ∧
    (rigIn .setup).meter.openTicket = some ticket ∧
    replyOn .record (after (.closeJob .record 65535) (rigIn .setup)) = some 0 ∧
    (after (.closeJob .record 65535) (rigIn .setup)).meter.openTicket = none := by decide +kernel

theorem test_witness_PowerAndResetInput :
    let s := after .resetAsserted rig
    s.power = .resetHeld ∧ s.tally.pump.drive = false ∧ after (.downStart .floor) s = s ∧
    (after (.downStart .floor) (after (.readTransaction .floor 3) s)).ports.floor.dataOut = [] ∧
    (after (.resetReleased true) s).modes.mode = .watch ∧ (after (.resetReleased true) rig).power = .running ∧
    (after .powerLoss rig).power = .off := by decide +kernel

/-- R197, step 6: RESET held while the supply is applied: no second and no permit until the input is released. -/
theorem test_witness_ResetHeldAtPowerOn :
    let dark := afterAll [.powerLoss, .resetAsserted] rig
    let s := after (.powerOn true) dark
    let t := after (.resetReleased true) s
    dark.power = .offResetHeld ∧ after (.powerLoss) s = dark ∧ (after (.resetReleased true) dark).power = .off ∧
    s.power = .resetHeld ∧ s.tally.pump.drive = false ∧ after (.deviceSecond bothOn) s = s ∧
    t.power = .running ∧ t.modes.mode = .watch ∧ t.tally.pump.drive = true ∧
    (t.meter.openTicket.map Ticket.powerEvents) = some 1 := by decide +kernel

/-- R16, R102, R104, R184: replies written out by hand from the fields the rules list. -/
theorem test_witness_ReplyPayloads :
    let body := fun (c : Instr) (s : State) => (((after c s).ports.mud.slot.getD []).drop 4).dropLast
    body (.readSlot .mud 96) rig = [1, 24, 0, 0, 2, 0] ∧ body (.readSlot .mud 95) rig = [0, 0, 0, 0, 2, 0] ∧
    body (.readRod .mud 24) rig = [24, 0, 112, 23, 114, 0, 0, 0, 0, 0, 0, 0, 0, 96, 0] ∧
    body (.readRod .mud 1) rig = [1, 0, 112, 23, 114, 0, 0, 0, 0, 0, 0, 0, 1, 1, 0] ∧
    body (.readInterval .mud 0) rig = intervalReply rig.log 0 wholeLog ∧ rig.log.intervals[0]? = some wholeLog ∧
    (body (.readTicket .mud 0 0) rig).length = 38 + 1 + 25 * 2 ∧ rig.depth.bit = some 149800 ∧ rig.lag.program ≠ [] ∧
    State.reset.depth.bit = none := by decide +kernel

theorem test_witness_Reads :
    rig.power = .running ∧ replyOn .mud (after (.readRod .mud 26) rig) = some 0 ∧
    replyOn .mud (after (.readRod .mud 27) rig) = some 15 ∧ replyOn .mud (after (.readStack .mud 256) rig) = some 0 ∧
    replyOn .mud (after (.readStack .mud 257) rig) = some 17 ∧
    [rig.circ.p1, rig.circ.p2, rig.circ.flowOut, rig.circ.pit][4 - 1]? = some rig.circ.pit ∧
    replyOn .mud (after (.readChannel .mud 4) rig) = some 0 ∧ replyOn .mud (after (.readChannel .mud 5) rig) = some 17 ∧
    replyOn .mud (after (.readTicket .mud 0 6) rig) = some 0 ∧ replyOn .mud (after (.readTicket .mud 0 7) rig) = some 17 ∧
    replyOn .mud (after (.readTicket .mud 3 0) closedRig) = some 0 ∧
    replyOn .mud (after (.readTicket .mud 3 0) rig) = some 15 := by decide +kernel

end Sys2Proof.Tests
end

namespace Sys2Proof.Machine

/-! ### What answering a request keeps -/

@[simp] theorem taken_state (s : State) : (taken s).state = s := rfl
@[simp] theorem answered_state (bs : List Byte) (s : State) : (answered bs s).state = s := rfl
@[simp] theorem refuse_state (c : ReplyCode) (s : State) : (refuse c s).state = s := rfl

/-- A condition that the handling of a transaction around a request's own rule does not break (R178, R180, R185): the reply
placed, the wake events judged, the zeros shifted out while RESET is held. -/
structure KeptByAnswer (P : State → Prop) : Prop where
  reply : ∀ p code c bs s, P s → P (placeReply p code c bs s)
  wakes : ∀ ws s, P s → P (wakeEvents ws s)
  zeros : ∀ p s, P s → P (shiftZeros p s)

section
variable {P : State → Prop} {p : Port} {code : Nat} {s t : State}

theorem whileRunning_keeps {f : State → State} (h : whileRunning f s = .next t) (hs : P s) (hf : P (f s)) : P t := by
  rcases whileRunning_cases f s t h with ⟨-, rfl⟩ | ⟨-, rfl⟩ <;> assumption

theorem writeTransaction_keeps (hP : KeptByAnswer P) {f : State → State} (h : writeTransaction p f s = .next t)
    (hs : P s) (hf : P (f s)) : P t := by
  rcases writeTransaction_cases p f s t h with ⟨-, rfl⟩ | ⟨-, rfl⟩ | ⟨-, rfl⟩
  · exact hf
  · exact hP.zeros p s hs
  · exact hs

theorem respond_keeps (hP : KeptByAnswer P) {body : State → Response} (hb : P (body s).state) :
    P (respond p code body s) :=
  hP.wakes _ _ (hP.reply _ _ _ _ _ hb)

/-- A request keeps what its rule keeps. -/
theorem request_keeps (hP : KeptByAnswer P) {body : State → Response} (h : request p code body s = .next t)
    (hs : P s) (hb : P (body s).state) : P t :=
  writeTransaction_keeps hP h hs (respond_keeps hP hb)

theorem checked_keeps {checks : List (Bool × ReplyCode)} {r : Response} (hs : P s)
    (hr : firstFailing checks = none → P r.state) : P (checked checks s r).state := by
  unfold checked
  split
  · exact hs
  · exact hr ‹_›

/-- A checked request keeps what its effect keeps where every check passes. -/
theorem request_checked_keeps (hP : KeptByAnswer P) {checks : State → List (Bool × ReplyCode)} {r : State → Response}
    (h : request p code (fun s => checked (checks s) s (r s)) s = .next t) (hs : P s)
    (hr : firstFailing (checks s) = none → P (r s).state) : P t :=
  request_keeps hP h hs (checked_keeps hs hr)

theorem readRequest_keeps (hP : KeptByAnswer P) {checks : State → List (Bool × ReplyCode)} {payload : State → List Byte}
    (h : readRequest p code checks payload s = .next t) (hs : P s) : P t :=
  request_checked_keeps hP h hs fun _ => hs

theorem judgedMove_keeps {checks : List (Bool × ReplyCode)} {r : Response} (refused : ∀ c, P (refuseMove code c s).state)
    (hr : firstFailing checks = none → P r.state) : P (judgedMove code checks s r).state := by
  unfold judgedMove
  split
  · exact refused _
  · exact hr ‹_›

/-- A move keeps what its refusals keep, and what its effect keeps where every check passes. -/
theorem moveRequest_keeps (hP : KeptByAnswer P) {checks : State → List (Bool × ReplyCode)} {effect : State → State}
    (h : moveRequest p code checks effect s = .next t) (hs : P s) (refused : ∀ c, P (refuseMove code c s).state)
    (he : firstFailing (checks s) = none → P (effect s)) : P t :=
  request_keeps hP h hs (judgedMove_keeps refused he)

end

/-! ### Checks that pass -/

@[simp] theorem inRange_isNone_eq_false (lo hi v : Nat) : (inRange lo hi v).isNone = false ↔ lo ≤ v ∧ v ≤ hi := by
  rw [← Bool.not_eq_true, inRange_isNone, Decidable.not_not]

/-! ### The moves (R23, R24) -/

@[simp] theorem moveTo_tally (x : Tally) (s : State) :
    (moveTo x s).tally.bha = x.bha ∧ (moveTo x s).tally.stack = x.stack ∧ (moveTo x s).tally.handling = x.handling ∧
    (moveTo x s).tally.state = x.state ∧ (moveTo x s).tally.stab = x.stab ∧
    (moveTo x s).tally.lastMove = some s.seconds := by
  and_intros <;> rfl

/-- R23: a move whose checks pass is made in one of its states. -/
theorem moveChecks_pass {p : Port} {states : List TallyState} {s : State}
    (h : firstFailing (moveChecks p states s) = none) : s.tally.state ∈ states := by
  have hstate := (firstFailing_eq_none_iff _).mp h (!(states.contains s.tally.state), .sequence) (by simp [moveChecks])
  simpa using hstate

theorem moveChecks_append_pass {p : Port} {states : List TallyState} {s : State} {rest : List (Bool × ReplyCode)}
    (h : firstFailing (moveChecks p states s ++ rest) = none) :
    s.tally.state ∈ states ∧ firstFailing rest = none := by
  rw [firstFailing_append, Option.or_eq_none_iff] at h
  exact ⟨moveChecks_pass h.1, h.2⟩

/-- R21: a move that needs a rod in the handling position finds one. -/
theorem handling_of_rodMissing {s : State} {rest : List (Bool × ReplyCode)}
    (h : firstFailing (rodMissing s :: rest) = none) :
    s.tally.handling = some (heldSerial s) ∧ firstFailing rest = none := by
  cases hh : s.tally.handling <;> simp_all [rodMissing, heldSerial]

end Sys2Proof.Machine

namespace Sys2Proof.Machine

/-! ### The register (R1) -/

/-- A register in ascending order holds one record of a serial. -/
theorem findRod_of_mem {rods : List Rod} {r : Rod} (h : (rods.map Rod.serial).Pairwise (· < ·)) (hr : r ∈ rods) :
    findRod rods r.serial = some r := by
  rw [List.pairwise_map] at h
  induction rods with
  | nil => cases hr
  | cons x xs ih =>
    obtain ⟨hx, hxs⟩ := List.pairwise_cons.mp h
    rcases List.mem_cons.mp hr with rfl | hr
    · simp [findRod]
    · have hne : x.serial ≠ r.serial := Nat.ne_of_lt (hx r hr)
      simpa [findRod, hne] using ih hxs hr

/-! ### The rods in their four places (R1, R2, R10, R15) -/

/-- The part of `RodsPlaced` that is about the rack, the stack and the handling position. -/
structure Placed (k : Rack) (stack : List Nat) (handling : Option Nat) : Prop where
  slots : k.slots.length = Config.rackSlots
  capacity : k.rods.length ≤ Config.maxRods
  room : k.laidOut.length ≤ Config.maxLaidOut
  ascending : (k.rods.map Rod.serial).Pairwise (· < ·)
  perm : (k.slots.filterMap Slot.occupant ++ stack ++ handling.toList ++ k.laidOut).Perm (k.rods.map Rod.serial)
  rejected : ∀ r ∈ k.rods, r.status = .rejected ↔ r.serial ∈ k.laidOut

theorem rodsPlaced_iff (s : State) :
    RodsPlaced s ↔ TallyCoherent s.tally ∧ Placed s.rack s.tally.stack s.tally.handling :=
  ⟨fun ⟨ht, h1, h2, h3, h4, h5, h6⟩ => ⟨ht, h1, h2, h3, h4, h5, h6⟩,
    fun ⟨ht, h1, h2, h3, h4, h5, h6⟩ => ⟨ht, h1, h2, h3, h4, h5, h6⟩⟩

namespace Placed
variable {k : Rack} {stack : List Nat} {handling : Option Nat} {r : Nat}

/-- Two registers of the same rods, each REJECTED in both or in neither, in a rack with the same occupants. -/
theorem congr {k' : Rack} (h : Placed k stack handling) (hs : k'.slots.map Slot.occupant = k.slots.map Slot.occupant)
    (hl : k'.laidOut = k.laidOut) (f : Rod → Rod) (hr : k'.rods = k.rods.map f) (serial : ∀ r, (f r).serial = r.serial)
    (status : ∀ r ∈ k.rods, (f r).status = .rejected ↔ r.status = .rejected) : Placed k' stack handling := by
  have hserials : k'.rods.map Rod.serial = k.rods.map Rod.serial := by simp [hr, serial]
  have hocc : k'.slots.filterMap Slot.occupant = k.slots.filterMap Slot.occupant := by
    simpa [List.filterMap_map] using congrArg (List.filterMap id) hs
  refine ⟨?_, ?_, hl ▸ h.room, hserials ▸ h.ascending, ?_, ?_⟩
  · simpa using (congrArg List.length hs).trans (by simpa using h.slots)
  · simpa [hr] using h.capacity
  · rw [hocc, hl, hserials]; exact h.perm
  · rw [hr, hl, List.forall_mem_map]
    intro x hx
    rw [status x hx, serial, h.rejected x hx]

/-- No serial stands twice among the places. -/
theorem nodup (h : Placed k stack handling) :
    (k.slots.filterMap Slot.occupant ++ stack ++ handling.toList ++ k.laidOut).Nodup :=
  h.perm.nodup_iff.mpr (h.ascending.imp Nat.ne_of_lt)

/-- The rod at the top of the stack passes to the handling position, and back. -/
theorem top_iff : Placed k (stack ++ [r]) none ↔ Placed k stack (some r) :=
  ⟨fun ⟨h1, h2, h3, h4, h5, h6⟩ => ⟨h1, h2, h3, h4, by simpa using h5, h6⟩,
    fun ⟨h1, h2, h3, h4, h5, h6⟩ => ⟨h1, h2, h3, h4, by simpa using h5, h6⟩⟩

end Placed

/-- The occupant of one slot before those of the slots after it. -/
theorem occupants_cons (x : Slot) (xs : List Slot) :
    (x :: xs).filterMap Slot.occupant = x.occupant.toList ++ xs.filterMap Slot.occupant := by
  cases h : x.occupant <;> simp [h]

/-- A slot replaced: what it held before makes up for what it holds now. -/
theorem occupants_set {xs : List Slot} {n : Nat} (x : Slot) (hn : n < xs.length) :
    ((xs.set n x).filterMap Slot.occupant ++ (xs.getD n blankSlot).occupant.toList).Perm
      (xs.filterMap Slot.occupant ++ x.occupant.toList) := by
  obtain ⟨before, after, hxs, -, hset⟩ := List.exists_of_set (a' := x) hn
  have hold : xs.getD n blankSlot = xs[n] := by simp [hn]
  rw [hset, hold]
  conv => rhs; rw [hxs]
  simp only [List.filterMap_append, occupants_cons, List.perm_iff_count, List.count_append]
  omega

@[simp] theorem setOccupant_slots (n : Nat) (o : Option Nat) (k : Rack) :
    (setOccupant n o k).slots =
      k.slots.set n { slotAt k n with occupant := o, sensed := .unknown, discrepancy := false } := rfl
@[simp] theorem setOccupant_rods (n : Nat) (o : Option Nat) (k : Rack) : (setOccupant n o k).rods = k.rods := rfl
@[simp] theorem setOccupant_laidOut (n : Nat) (o : Option Nat) (k : Rack) : (setOccupant n o k).laidOut = k.laidOut := rfl

/-- R13: a change of a slot's recorded occupant exchanges the two occupants among the places. -/
theorem occupants_setOccupant {k : Rack} {n : Nat} (o : Option Nat) (hn : n < k.slots.length) :
    ((setOccupant n o k).slots.filterMap Slot.occupant ++ (slotAt k n).occupant.toList).Perm
      (k.slots.filterMap Slot.occupant ++ o.toList) :=
  occupants_set _ hn

namespace Placed
variable {k : Rack} {stack : List Nat} {handling handling' : Option Nat} {r n : Nat}

/-- R13, R14: a rod passes between a slot and the handling position. -/
theorem exchange (h : Placed k stack handling) (hn : n < k.slots.length) (o : Option Nat)
    (ho : (o.toList ++ handling'.toList).Perm ((slotAt k n).occupant.toList ++ handling.toList)) :
    Placed (setOccupant n o k) stack handling' := by
  refine ⟨by simpa using h.slots, h.capacity, h.room, h.ascending, ?_, h.rejected⟩
  have hslots := occupants_setOccupant o hn
  have hp := h.perm
  simp only [List.perm_iff_count, List.count_append, setOccupant_rods, setOccupant_laidOut] at hslots hp ho ⊢
  intro a
  have := hslots a; have := hp a; have := ho a
  omega

/-- R30: the rod of a slot passes to the handling position. -/
theorem pick (h : Placed k stack none) (hn : n < k.slots.length) (hr : (slotAt k n).occupant = some r) :
    Placed (setOccupant n none k) stack (some r) := h.exchange hn none (by simp [hr])

/-- R32: the rod in the handling position passes to an empty slot. -/
theorem rack (h : Placed k stack (some r)) (hn : n < k.slots.length) (hr : (slotAt k n).occupant = none) :
    Placed (setOccupant n (some r) k) stack none := h.exchange hn (some r) (by simp [hr])

end Placed

theorem serials_modifyRod (r : Nat) (f : Rod → Rod) (hf : ∀ x, (f x).serial = x.serial) (rods : List Rod) :
    (modifyRod r f rods).map Rod.serial = rods.map Rod.serial := by
  simp only [modifyRod, List.map_map]
  refine List.map_congr_left fun x _ => ?_
  simp only [Function.comp]
  split
  · exact hf x
  · rfl

namespace Placed
variable {k : Rack} {stack : List Nat} {handling handling' : Option Nat} {r n : Nat}

/-- R15, R33: the rod in the handling position joins the laid-out list. -/
theorem layOut (h : Placed k stack (some r)) (hroom : k.laidOut.length < Config.maxLaidOut) :
    Placed (layOut r k) stack none := by
  have hserials := serials_modifyRod r (fun x => { x with status := .rejected }) (fun _ => rfl) k.rods
  refine ⟨h.slots, ?_, ?_, hserials ▸ h.ascending, ?_, ?_⟩
  · simpa [Machine.layOut, modifyRod] using h.capacity
  · simp only [Machine.layOut, List.length_append, List.length_singleton]
    exact hroom
  · have hp := h.perm
    simp only [Machine.layOut, hserials, List.perm_iff_count, List.count_append, Option.toList] at hp ⊢
    intro a
    have := hp a
    simp only [List.count_nil]
    omega
  · have hrej := h.rejected
    simp only [Machine.layOut, modifyRod, List.mem_map, List.mem_append, List.mem_singleton]
    rintro x ⟨y, hy, rfl⟩
    split
    · simp_all
    · simp_all

/-! A rod registered, deleted, restored (R3, R4, R5) -/

theorem serial_unplaced (h : Placed k stack handling) (hr : ¬ ∃ x ∈ k.rods, x.serial = r) :
    r ∉ k.slots.filterMap Slot.occupant ++ stack ++ handling.toList ++ k.laidOut := by
  rw [h.perm.mem_iff]
  simpa using hr

end Placed

theorem insertRod_perm (x : Rod) (rods : List Rod) : (insertRod x rods).Perm (x :: rods) := by
  induction rods with
  | nil => exact .refl _
  | cons y ys ih =>
    unfold insertRod
    split
    · exact .refl _
    · exact (ih.cons y).trans (.swap x y ys)

/-- R1: a new serial keeps the register in ascending order. -/
theorem insertRod_ascending {x : Rod} {rods : List Rod} (h : (rods.map Rod.serial).Pairwise (· < ·))
    (hx : ¬ ∃ y ∈ rods, y.serial = x.serial) : ((insertRod x rods).map Rod.serial).Pairwise (· < ·) := by
  rw [List.pairwise_map] at h ⊢
  induction rods with
  | nil => simp [insertRod]
  | cons y ys ih =>
    obtain ⟨hy, hys⟩ := List.pairwise_cons.mp h
    unfold insertRod
    split
    · exact List.pairwise_cons.mpr ⟨List.forall_mem_cons.mpr ⟨‹_›, fun z hz => Nat.lt_trans ‹_› (hy z hz)⟩, h⟩
    · refine List.pairwise_cons.mpr ⟨fun z hz => ?_, ih hys fun ⟨z, hz, e⟩ => hx ⟨z, .tail _ hz, e⟩⟩
      rcases List.mem_cons.mp ((insertRod_perm x ys).mem_iff.mp hz) with rfl | hz
      · have : y.serial ≠ z.serial := fun e => hx ⟨y, .head _, e⟩
        omega
      · exact hy z hz

namespace Placed
variable {k : Rack} {stack : List Nat} {handling : Option Nat} {r n : Nat}

/-- R3: a new rod into an empty slot. -/
theorem register (h : Placed k stack handling) (x : Rod) (hx : ¬ ∃ y ∈ k.rods, y.serial = x.serial)
    (hok : x.status ≠ .rejected) (hroom : k.rods.length < Config.maxRods) (hn : n < k.slots.length)
    (hempty : (slotAt k n).occupant = none) :
    Placed (setOccupant n (some x.serial) { k with rods := insertRod x k.rods }) stack handling := by
  have hperm := insertRod_perm x k.rods
  refine ⟨by simpa using h.slots, ?_, h.room, insertRod_ascending h.ascending hx, ?_, ?_⟩
  · simp only [setOccupant_rods, hperm.length_eq, List.length_cons]
    exact hroom
  · have hslots := occupants_setOccupant (k := k) (some x.serial) hn
    have hp := h.perm
    have hserials := hperm.map Rod.serial
    rw [hempty] at hslots
    rw [List.map_cons] at hserials
    refine .trans ?_ hserials.symm
    simp only [List.perm_iff_count, List.count_append, List.count_cons, Option.toList, List.count_nil,
      setOccupant_slots, setOccupant_laidOut] at hslots hp ⊢
    intro a
    have := hslots a; have := hp a
    simp only [slotAt] at *
    omega
  · intro y hy
    rcases List.mem_cons.mp (hperm.mem_iff.mp hy) with rfl | hy
    · have := h.serial_unplaced hx
      simp_all
    · exact h.rejected y hy

end Placed

/-- A serial that stands once in a list, taken out of it. -/
theorem perm_cons_filter_ne {xs : List Nat} {r : Nat} (h : xs.Nodup) (hr : r ∈ xs) :
    xs.Perm (r :: xs.filter (· != r)) :=
  h.erase_eq_filter r ▸ List.perm_cons_erase hr

namespace Placed
variable {k : Rack} {stack : List Nat} {handling : Option Nat} {r n : Nat}

theorem laidOut_perm (h : Placed k stack handling) (hr : r ∈ k.laidOut) :
    k.laidOut.Perm (r :: k.laidOut.filter (· != r)) :=
  perm_cons_filter_ne (List.nodup_append.mp h.nodup).2.1 hr

/-- R4: a laid-out rod deleted. -/
theorem delete (h : Placed k stack handling) (hr : r ∈ k.laidOut) :
    Placed { k with rods := k.rods.filter (fun x => x.serial != r), laidOut := k.laidOut.filter (· != r) }
      stack handling := by
  have hserials : (k.rods.filter (fun x => x.serial != r)).map Rod.serial = (k.rods.map Rod.serial).filter (· != r) := by
    simp [List.filter_map, Function.comp_def]
  have hmem : r ∈ k.rods.map Rod.serial := h.perm.mem_iff.mp (List.mem_append_right _ hr)
  refine ⟨h.slots, Nat.le_trans (List.length_filter_le _ _) h.capacity, Nat.le_trans (List.length_filter_le _ _) h.room, ?_, ?_, ?_⟩
  · exact h.ascending.sublist ((List.filter_sublist).map _)
  · have hrods := perm_cons_filter_ne (h.ascending.imp Nat.ne_of_lt) hmem
    have hlaid := h.laidOut_perm hr
    have hp := h.perm
    rw [hserials]
    simp only [List.perm_iff_count, List.count_append, List.count_cons] at hrods hlaid hp ⊢
    intro a
    have := hrods a; have := hlaid a; have := hp a
    omega
  · simp only [List.mem_filter, bne_iff_ne]
    rintro x ⟨hx, hne⟩
    simp [h.rejected x hx, hne]

/-- R5: a laid-out rod restored to an empty slot. -/
theorem restore (h : Placed k stack handling) (hr : r ∈ k.laidOut) (hn : n < k.slots.length)
    (hempty : (slotAt k n).occupant = none) :
    Placed (setOccupant n (some r) { k with
      laidOut := k.laidOut.filter (· != r), rods := modifyRod r (fun x => { x with status := .ok }) k.rods })
      stack handling := by
  have hserials := serials_modifyRod r (fun x => { x with status := .ok }) (fun _ => rfl) k.rods
  refine ⟨by simpa using h.slots, ?_, Nat.le_trans (List.length_filter_le _ _) h.room, ?_, ?_, ?_⟩
  · simpa [modifyRod] using h.capacity
  · simpa only [setOccupant_rods, hserials] using h.ascending
  · have hslots := occupants_setOccupant (k := k) (some r) hn
    have hlaid := h.laidOut_perm hr
    have hp := h.perm
    rw [hempty] at hslots
    simp only [List.perm_iff_count, List.count_append, List.count_cons, Option.toList, List.count_nil, slotAt,
      setOccupant_slots, setOccupant_laidOut, setOccupant_rods, hserials] at hslots hlaid hp ⊢
    intro a
    have := hslots a; have := hlaid a; have := hp a
    omega
  · simp only [setOccupant_rods, setOccupant_laidOut, modifyRod, List.mem_map, List.mem_filter, bne_iff_ne]
    rintro x ⟨y, hy, rfl⟩
    split
    · simp [*]
    · simp [h.rejected y hy, *]

end Placed

end Sys2Proof.Machine

namespace Sys2Proof.Machine

/-! ### What `RodsPlaced` looks at -/

/-- The fields of a state that `RodsPlaced` looks at. -/
structure Places where
  rack : Rack
  stack : List Nat
  handling : Option Nat
  state : TallyState
  stab : Option Nat

def placesOf (s : State) : Places := ⟨s.rack, s.tally.stack, s.tally.handling, s.tally.state, s.tally.stab⟩

section
variable {s t : State} {k : Rack} {stack : List Nat} {handling : Option Nat} {state : TallyState} {stab : Option Nat}

theorem rodsPlaced_congr (h : placesOf t = placesOf s) (hs : RodsPlaced s) : RodsPlaced t := by
  simp only [placesOf, Places.mk.injEq] at h
  obtain ⟨hrack, hstack, hhandling, hstate, hstab⟩ := h
  simpa only [RodsPlaced, TallyCoherent, serialsPlaced, hrack, hstack, hhandling, hstate, hstab] using hs

/-- The places a move leaves are in order when the handling position agrees with the tally state and no stab runs. -/
theorem rodsPlaced_of_move (state : TallyState) (h : placesOf t = ⟨k, stack, handling, state, none⟩) (held : handling.isSome = heldState state)
    (hp : Placed k stack handling) : RodsPlaced t := by
  simp only [placesOf, Places.mk.injEq] at h
  obtain ⟨rfl, rfl, rfl, rfl, hstab⟩ := h
  exact (rodsPlaced_iff t).mpr ⟨⟨held, by simp [hstab]⟩, hp⟩

/-- The rack replaced by one in which the rods are in order with the same stack and handling position. -/
theorem setRack_rodsPlaced (hs : RodsPlaced s) (hk : Placed k s.tally.stack s.tally.handling) :
    RodsPlaced (s.setRack k) := (rodsPlaced_iff _).mpr ⟨hs.1, hk⟩

theorem placed_of_rodsPlaced (hs : RodsPlaced s) : Placed s.rack s.tally.stack s.tally.handling := ((rodsPlaced_iff s).mp hs).2

/-- R21: in a state that holds no rod, the handling position is empty. -/
theorem handling_of_not_held (hs : RodsPlaced s) (h : heldState s.tally.state = false) : s.tally.handling = none := by
  simpa [h] using hs.1.1

theorem lt_slots (hs : RodsPlaced s) {n : Nat} (hn : n ≤ 255) : n < s.rack.slots.length := by
  have := (placed_of_rodsPlaced hs).slots
  simp only [Config.rackSlots] at this
  omega

@[simp] theorem placesOf_raise (n : NoticeKind) (a b : Nat) (s : State) : placesOf (raise n a b s) = placesOf s := rfl

@[simp] theorem placesOf_recheck (s : State) : placesOf (recheck s) = placesOf s := by simp [placesOf]

@[simp] theorem placesOf_depthCompute (s : State) : placesOf (depthCompute s) = placesOf s := by simp [placesOf]

theorem placesOf_refuseMove (code : Nat) (c : ReplyCode) (s : State) : placesOf (refuseMove code c s).state = placesOf s := by
  unfold refuseMove
  split <;> simp [placesOf]

theorem keptByAnswer_rodsPlaced : KeptByAnswer RodsPlaced where
  reply _ _ _ _ _ := rodsPlaced_congr (by simp [placesOf])
  wakes _ _ := rodsPlaced_congr (by simp [placesOf])
  zeros _ _ := rodsPlaced_congr (by simp [placesOf])

end

/-! ### The checks of a put and a take (R14) -/

theorem putChecks_pass {k : Rack} {n : Nat} (h : firstFailing (putChecks k n) = none) :
    n ≤ 255 ∧ (slotAt k n).occupant = none := by
  have hall := (firstFailing_eq_none_iff _).mp h
  have hn := hall (255 < n, .outOfRange) (by simp [putChecks])
  have ho := hall ((slotAt k n).occupant.isSome, .occupied) (by simp [putChecks])
  exact ⟨by simpa using hn, by simpa using ho⟩

theorem takeChecks_pass {k : Rack} {n : Nat} (h : firstFailing (takeChecks k n) = none) :
    n ≤ 255 ∧ (slotAt k n).occupant = some ((slotAt k n).occupant.getD 0) := by
  have hall := (firstFailing_eq_none_iff _).mp h
  have hn := hall (255 < n, .outOfRange) (by simp [takeChecks])
  have ho := hall ((slotAt k n).occupant.isNone, .empty) (by simp [takeChecks])
  refine ⟨by simpa using hn, ?_⟩
  cases hx : (slotAt k n).occupant <;> simp_all

/-! ### The moves keep the rods in their places -/

section
variable {s t : State}

theorem breakJointTaken_rodsPlaced (hs : RodsPlaced s) (hstate : s.tally.state = .inSlipsLatched)
    (hstack : s.tally.stack ≠ []) : RodsPlaced (breakJointTaken s) := by
  have hp := placed_of_rodsPlaced hs
  have htop : s.tally.stack = s.tally.stack.dropLast ++ [topSerial s.tally] := by
    rw [topSerial, List.getLast?_eq_some_getLast hstack, Option.getD_some, List.dropLast_concat_getLast]
  rw [handling_of_not_held hs (by simp [hstate, heldState]), htop] at hp
  exact rodsPlaced_of_move .rodHeldRemove (by simp [placesOf, breakJointTaken]) rfl (Placed.top_iff.mp hp)

theorem makeJoint_placed (hs : RodsPlaced s) (hh : s.tally.handling = some (heldSerial s)) :
    Placed s.rack (s.tally.stack ++ [heldSerial s]) none :=
  Placed.top_iff.mpr (hh ▸ placed_of_rodsPlaced hs)

theorem resolveToString_rodsPlaced (hs : RodsPlaced s) (hh : s.tally.handling = some (heldSerial s)) :
    RodsPlaced (resolveToString s) :=
  rodsPlaced_of_move .inSlipsLatched (by simp [placesOf, resolveToString]) rfl (makeJoint_placed hs hh)

theorem pickRodTaken_rodsPlaced {n : Nat} (hs : RodsPlaced s) (hstate : s.tally.state = .inSlipsFree)
    (hn : n ≤ 255) (ho : (slotAt s.rack n).occupant = some ((slotAt s.rack n).occupant.getD 0)) :
    RodsPlaced (pickRodTaken n s) := by
  have hp := placed_of_rodsPlaced hs
  rw [handling_of_not_held hs (by simp [hstate, heldState])] at hp
  exact rodsPlaced_of_move .rodHeldAdd (by simp [placesOf, pickRodTaken]) rfl (hp.pick (lt_slots hs hn) ho)

theorem rackHeldRod_rodsPlaced {n : Nat} (hs : RodsPlaced s) (hh : s.tally.handling = some (heldSerial s))
    (hn : n ≤ 255) (ho : (slotAt s.rack n).occupant = none) : RodsPlaced (rackHeldRod n s) :=
  rodsPlaced_of_move .inSlipsFree (by simp [placesOf, rackHeldRod]) rfl
    (Placed.rack (hh ▸ placed_of_rodsPlaced hs) (lt_slots hs hn) ho)

theorem layOutHeldRod_rodsPlaced (hs : RodsPlaced s) (hh : s.tally.handling = some (heldSerial s))
    (hroom : s.rack.laidOut.length < Config.maxLaidOut) : RodsPlaced (layOutHeldRod s) :=
  rodsPlaced_of_move .inSlipsFree (by simp [placesOf, layOutHeldRod]) rfl
    (Placed.layOut (hh ▸ placed_of_rodsPlaced hs) hroom)

/-! ### Counting and wear keep the rods in their places (R7, R8, R9) -/

theorem countRods_rodsPlaced {serials : List Nat} {f : Rod → Rod} (hs : RodsPlaced s)
    (serial : ∀ r, (f r).serial = r.serial) (status : ∀ r, (f r).status = r.status) :
    RodsPlaced (countRods serials f s) := by
  refine setRack_rodsPlaced hs ((placed_of_rodsPlaced hs).congr rfl rfl _ rfl (fun r => ?_) (fun r _ => ?_))
  · split <;> simp [serial]
  · split <;> simp [status]

/-- R9: a rod that wears out was OK, so no laid-out rod changes its status. -/
theorem wearCheck_rodsPlaced {serial : Nat} (hs : RodsPlaced s) : RodsPlaced (wearCheck serial s) := by
  have hp := placed_of_rodsPlaced hs
  unfold wearCheck
  split
  next r hr =>
    split
    next hworn =>
      refine rodsPlaced_congr (placesOf_raise ..) (setRack_rodsPlaced hs ?_)
      refine hp.congr rfl rfl (fun x => if x.serial = serial then { x with status := .worn } else x) rfl
        (fun x => ?_) (fun x hx => ?_)
      · split <;> rfl
      · split
        next hserial =>
          obtain rfl : x = r := by simpa [← hserial, findRod_of_mem hp.ascending hx] using hr
          simp_all [wornOut]
        next => rfl
    next => exact hs
  next => exact hs

theorem wearChecks_rodsPlaced (serials : List Nat) (hs : RodsPlaced s) : RodsPlaced (wearChecks serials s) := by
  unfold wearChecks
  induction serials generalizing s with
  | nil => exact hs
  | cons x xs ih => exact ih (wearCheck_rodsPlaced hs)

theorem countJoint_rodsPlaced (serials : List Nat) (hs : RodsPlaced s) : RodsPlaced (countJoint serials s) :=
  wearChecks_rodsPlaced _ (countRods_rodsPlaced hs (fun _ => rfl) fun _ => rfl)

theorem wearSecond_rodsPlaced (hs : RodsPlaced s) : RodsPlaced (wearSecond s) := by
  unfold wearSecond
  split
  · exact wearChecks_rodsPlaced _ (countRods_rodsPlaced hs (fun _ => rfl) fun _ => rfl)
  · exact hs

theorem makeJointTaken_rodsPlaced (hs : RodsPlaced s) (hh : s.tally.handling = some (heldSerial s)) :
    RodsPlaced (makeJointTaken s) := by
  refine rodsPlaced_congr (placesOf_recheck _) (countJoint_rodsPlaced _ ?_)
  exact rodsPlaced_of_move .inSlipsLatched (by simp [placesOf]) rfl (makeJoint_placed hs hh)

/-! ### Expiry and the device second -/

theorem expireStab_rodsPlaced (hs : RodsPlaced s) : RodsPlaced (expireStab s) := by
  unfold expireStab
  split
  · exact rodsPlaced_of_move s.tally.state (by simp [placesOf]) hs.1.1 (placed_of_rodsPlaced hs)
  · exact hs

theorem placesOf_makeStale (s : State) : placesOf (makeStale s) = placesOf s := by
  unfold makeStale
  split <;> simp [placesOf]

theorem placesOf_permitReadback (pins : SensePins) (s : State) : placesOf (permitReadback pins s) = placesOf s := by
  unfold permitReadback
  simp only
  split <;> simp [placesOf, sensePermits]

theorem placesOf_secondComparison (q : Permit) (sense : Bool) (s : State) :
    placesOf (secondComparison q sense s) = placesOf s := by
  unfold secondComparison
  simp only
  split
  · cases q <;> simp [placesOf, setLine]
  · rfl

/-- After the wear counts, nothing in the work of a second moves a rod or looks at the register. -/
theorem secondPasses_rodsPlaced (pins : SensePins) (hs : RodsPlaced s) : RodsPlaced (secondPasses pins s) := by
  have hworn : RodsPlaced (wearSecond (advanceSeconds (overdueExpiries s))) :=
    wearSecond_rodsPlaced (rodsPlaced_congr (by exact placesOf_makeStale _) (expireStab_rodsPlaced hs))
  refine rodsPlaced_congr ?_ (rodsPlaced_congr (placesOf_permitReadback pins _) hworn)
  simp [secondPasses, placesOf]

/-! ### Power (R17, R41, R196 to R198) -/

theorem blankRack_placed : Placed blankRack [] none where
  slots := List.length_replicate
  capacity := Nat.zero_le _
  room := Nat.zero_le _
  ascending := .nil
  perm := by simp [blankRack, blankSlot]
  rejected := by simp [blankRack]

theorem reset_rodsPlaced : RodsPlaced State.reset := rodsPlaced_of_move .onBlock rfl rfl blankRack_placed

theorem volatileReset_rodsPlaced (hs : RodsPlaced s) : RodsPlaced (volatileReset s) := by
  refine rodsPlaced_of_move s.tally.state rfl hs.1.1 ((placed_of_rodsPlaced hs).congr ?_ rfl id ?_ (fun _ => rfl) fun _ _ => .rfl)
  · simp [volatileReset, slotVolatile, Function.comp_def]
  · simp [volatileReset]

theorem readStore_rodsPlaced (valid : Bool) (hs : RodsPlaced s) : RodsPlaced (readStore valid s) := by
  cases valid
  · exact rodsPlaced_congr (s := State.reset) rfl reset_rodsPlaced
  · exact hs

theorem placesOf_chooseMode (s : State) : placesOf (chooseMode s) = placesOf s := by
  unfold chooseMode
  simp only
  split <;> rfl

theorem placesOf_countPowerEvent (s : State) : placesOf (countPowerEvent s) = placesOf s := by
  unfold countPowerEvent
  split <;> rfl

/-- R41: a rod in the handling position makes the tally UNRESOLVED, which holds it. -/
theorem checkTally_rodsPlaced (hs : RodsPlaced s) (hstab : s.tally.stab = none) : RodsPlaced (checkTally s) := by
  unfold checkTally
  split
  next serial hh =>
    exact rodsPlaced_of_move .unresolved (by simp [placesOf, hstab, hh]) rfl (hh ▸ placed_of_rodsPlaced hs)
  next => exact hs

theorem powerUp_rodsPlaced (valid : Bool) (hs : RodsPlaced s) : RodsPlaced (powerUp valid s) := by
  have hread := readStore_rodsPlaced valid (volatileReset_rodsPlaced hs)
  have hcounted : RodsPlaced (countPowerEvent (chooseMode (readStore valid (volatileReset s)))) :=
    rodsPlaced_congr (placesOf_countPowerEvent _) (rodsPlaced_congr (placesOf_chooseMode _) hread)
  have hstab : (countPowerEvent (chooseMode (readStore valid (volatileReset s)))).tally.stab = none := by
    have h := congrArg Places.stab ((placesOf_countPowerEvent _).trans (placesOf_chooseMode (readStore valid (volatileReset s))))
    cases valid <;> exact h
  exact rodsPlaced_congr rfl (checkTally_rodsPlaced hcounted hstab)

end

end Sys2Proof.Machine

namespace Sys2Proof.Machine

@[simp] theorem setCard_frame (card : RateCard) (s : State) :
    (setCard card s).power = s.power ∧ (setCard card s).seconds = s.seconds ∧
    (setCard card s).storeBlank = s.storeBlank ∧ (setCard card s).rack = s.rack ∧ (setCard card s).tally = s.tally ∧
    (setCard card s).depth = s.depth ∧ (setCard card s).circ = s.circ ∧ (setCard card s).lag = s.lag ∧
    (setCard card s).log = s.log ∧ (setCard card s).levels = s.levels ∧ (setCard card s).ports = s.ports ∧
    (setCard card s).modes = s.modes ∧ (setCard card s).job = s.job ∧ (setCard card s).pending = s.pending := by
  and_intros <;> rfl

@[simp] theorem modifyPort_frame (p : Port) (f : PortState → PortState) (s : State) :
    (modifyPort p f s).power = s.power ∧ (modifyPort p f s).seconds = s.seconds ∧
    (modifyPort p f s).storeBlank = s.storeBlank ∧ (modifyPort p f s).rack = s.rack ∧
    (modifyPort p f s).tally = s.tally ∧ (modifyPort p f s).depth = s.depth ∧ (modifyPort p f s).circ = s.circ ∧
    (modifyPort p f s).lag = s.lag ∧ (modifyPort p f s).log = s.log ∧ (modifyPort p f s).meter = s.meter ∧
    (modifyPort p f s).levels = s.levels ∧ (modifyPort p f s).modes = s.modes ∧ (modifyPort p f s).job = s.job ∧
    (modifyPort p f s).pending = s.pending := by
  and_intros <;> rfl

@[simp] theorem classifyTaken_frame (n : Nat) (l : Option Nat) (b : Option Band) (s : State) :
    (classifyTaken n l b s).power = s.power ∧ (classifyTaken n l b s).seconds = s.seconds ∧
    (classifyTaken n l b s).storeBlank = s.storeBlank ∧ (classifyTaken n l b s).rack = s.rack ∧
    (classifyTaken n l b s).tally = s.tally ∧ (classifyTaken n l b s).depth = s.depth ∧
    (classifyTaken n l b s).circ = s.circ ∧ (classifyTaken n l b s).lag = s.lag ∧
    (classifyTaken n l b s).levels = s.levels ∧ (classifyTaken n l b s).ports = s.ports ∧
    (classifyTaken n l b s).modes = s.modes ∧ (classifyTaken n l b s).job = s.job ∧
    (classifyTaken n l b s).pending = s.pending := by
  simp [classifyTaken]

@[simp] theorem mergeTaken_frame (n : Nat) (s : State) :
    (mergeTaken n s).power = s.power ∧ (mergeTaken n s).seconds = s.seconds ∧
    (mergeTaken n s).storeBlank = s.storeBlank ∧ (mergeTaken n s).rack = s.rack ∧ (mergeTaken n s).tally = s.tally ∧
    (mergeTaken n s).depth = s.depth ∧ (mergeTaken n s).circ = s.circ ∧ (mergeTaken n s).lag = s.lag ∧
    (mergeTaken n s).levels = s.levels ∧ (mergeTaken n s).ports = s.ports ∧ (mergeTaken n s).modes = s.modes ∧
    (mergeTaken n s).job = s.job ∧ (mergeTaken n s).pending = s.pending := by
  unfold mergeTaken
  simp only
  split <;> simp

@[simp] theorem setBandRatesTaken_frame (rates : List Nat) (b : Band) (s : State) :
    (setBandRatesTaken rates b s).power = s.power ∧ (setBandRatesTaken rates b s).seconds = s.seconds ∧
    (setBandRatesTaken rates b s).storeBlank = s.storeBlank ∧ (setBandRatesTaken rates b s).rack = s.rack ∧
    (setBandRatesTaken rates b s).tally = s.tally ∧ (setBandRatesTaken rates b s).depth = s.depth ∧
    (setBandRatesTaken rates b s).circ = s.circ ∧ (setBandRatesTaken rates b s).lag = s.lag ∧
    (setBandRatesTaken rates b s).levels = s.levels ∧ (setBandRatesTaken rates b s).ports = s.ports ∧
    (setBandRatesTaken rates b s).modes = s.modes ∧ (setBandRatesTaken rates b s).job = s.job ∧
    (setBandRatesTaken rates b s).pending = s.pending := by
  unfold setBandRatesTaken
  simp only
  split <;> simp

@[simp] theorem blockTaken_frame (h : Nat) (r : Bool) (s : State) :
    (blockTaken h r s).power = s.power ∧ (blockTaken h r s).seconds = s.seconds ∧
    (blockTaken h r s).storeBlank = s.storeBlank ∧ (blockTaken h r s).rack = s.rack ∧
    (blockTaken h r s).tally = s.tally ∧ (blockTaken h r s).circ = s.circ ∧ (blockTaken h r s).levels = s.levels ∧
    (blockTaken h r s).modes = s.modes ∧ (blockTaken h r s).job = s.job ∧ (blockTaken h r s).pending = s.pending := by
  simp [blockTaken]

@[simp] theorem openJobTaken_frame (number start interval : Nat) (s : State) :
    (openJobTaken number start interval s).power = s.power ∧
    (openJobTaken number start interval s).seconds = s.seconds ∧
    (openJobTaken number start interval s).storeBlank = s.storeBlank ∧
    (openJobTaken number start interval s).rack = s.rack ∧ (openJobTaken number start interval s).tally = s.tally ∧
    (openJobTaken number start interval s).levels = s.levels ∧
    (openJobTaken number start interval s).modes = s.modes ∧
    (openJobTaken number start interval s).pending = s.pending := by
  simp [openJobTaken]

@[simp] theorem closeJobTaken_frame (reference : Nat) (s : State) :
    (closeJobTaken reference s).power = s.power ∧ (closeJobTaken reference s).seconds = s.seconds ∧
    (closeJobTaken reference s).storeBlank = s.storeBlank ∧ (closeJobTaken reference s).rack = s.rack ∧
    (closeJobTaken reference s).tally = s.tally ∧ (closeJobTaken reference s).depth = s.depth ∧
    (closeJobTaken reference s).circ = s.circ ∧ (closeJobTaken reference s).lag = s.lag ∧
    (closeJobTaken reference s).log = s.log ∧ (closeJobTaken reference s).levels = s.levels ∧
    (closeJobTaken reference s).modes = s.modes ∧ (closeJobTaken reference s).pending = s.pending := by
  simp [closeJobTaken]

@[simp] theorem goPending_frame (target : Mode) (p : Port) (failing : Nat) (s : State) :
    ((goPending target p failing s).state).power = s.power ∧
    ((goPending target p failing s).state).seconds = s.seconds ∧
    ((goPending target p failing s).state).storeBlank = s.storeBlank ∧
    ((goPending target p failing s).state).rack = s.rack ∧ ((goPending target p failing s).state).tally = s.tally ∧
    ((goPending target p failing s).state).depth = s.depth ∧ ((goPending target p failing s).state).circ = s.circ ∧
    ((goPending target p failing s).state).lag = s.lag ∧ ((goPending target p failing s).state).log = s.log ∧
    ((goPending target p failing s).state).meter = s.meter ∧
    ((goPending target p failing s).state).levels = s.levels ∧ ((goPending target p failing s).state).job = s.job ∧
    ((goPending target p failing s).state).pending = s.pending := by
  and_intros <;> rfl

@[simp] theorem sampleCaughtTaken_frame (number : Nat) (s : State) :
    ((sampleCaughtTaken number s).state).power = s.power ∧ ((sampleCaughtTaken number s).state).seconds = s.seconds ∧
    ((sampleCaughtTaken number s).state).storeBlank = s.storeBlank ∧
    ((sampleCaughtTaken number s).state).rack = s.rack ∧ ((sampleCaughtTaken number s).state).tally = s.tally ∧
    ((sampleCaughtTaken number s).state).depth = s.depth ∧ ((sampleCaughtTaken number s).state).circ = s.circ ∧
    ((sampleCaughtTaken number s).state).meter = s.meter ∧ ((sampleCaughtTaken number s).state).levels = s.levels ∧
    ((sampleCaughtTaken number s).state).modes = s.modes ∧ ((sampleCaughtTaken number s).state).job = s.job ∧
    ((sampleCaughtTaken number s).state).pending = s.pending := by
  unfold sampleCaughtTaken
  split
  · simp
  · split
    · simp
    · split <;> simp

@[simp] theorem channelNotice_frame (n : Nat) (before after : Channel) (s : State) :
    (channelNotice n before after s).power = s.power ∧ (channelNotice n before after s).seconds = s.seconds ∧
    (channelNotice n before after s).storeBlank = s.storeBlank ∧ (channelNotice n before after s).rack = s.rack ∧
    (channelNotice n before after s).tally = s.tally ∧ (channelNotice n before after s).depth = s.depth ∧
    (channelNotice n before after s).circ = s.circ ∧ (channelNotice n before after s).lag = s.lag ∧
    (channelNotice n before after s).log = s.log ∧ (channelNotice n before after s).meter = s.meter ∧
    (channelNotice n before after s).levels = s.levels ∧ (channelNotice n before after s).modes = s.modes ∧
    (channelNotice n before after s).job = s.job ∧ (channelNotice n before after s).pending = s.pending := by
  unfold channelNotice
  split <;> simp

@[simp] theorem judgeChannel_frame (n : Nat) (plausible : Bool) (value : Nat) (s : State) :
    (judgeChannel n plausible value s).power = s.power ∧ (judgeChannel n plausible value s).seconds = s.seconds ∧
    (judgeChannel n plausible value s).storeBlank = s.storeBlank ∧ (judgeChannel n plausible value s).rack = s.rack ∧
    (judgeChannel n plausible value s).tally = s.tally ∧ (judgeChannel n plausible value s).depth = s.depth ∧
    (judgeChannel n plausible value s).lag = s.lag ∧ (judgeChannel n plausible value s).log = s.log ∧
    (judgeChannel n plausible value s).meter = s.meter ∧ (judgeChannel n plausible value s).levels = s.levels ∧
    (judgeChannel n plausible value s).modes = s.modes ∧ (judgeChannel n plausible value s).job = s.job ∧
    (judgeChannel n plausible value s).pending = s.pending := by
  simp [judgeChannel]

@[simp] theorem judgeChannels_frame (p1 p2 flowOut pit e : Nat) (s : State) :
    (judgeChannels p1 p2 flowOut pit e s).power = s.power ∧
    (judgeChannels p1 p2 flowOut pit e s).seconds = s.seconds ∧
    (judgeChannels p1 p2 flowOut pit e s).storeBlank = s.storeBlank ∧
    (judgeChannels p1 p2 flowOut pit e s).rack = s.rack ∧ (judgeChannels p1 p2 flowOut pit e s).tally = s.tally ∧
    (judgeChannels p1 p2 flowOut pit e s).depth = s.depth ∧ (judgeChannels p1 p2 flowOut pit e s).lag = s.lag ∧
    (judgeChannels p1 p2 flowOut pit e s).log = s.log ∧ (judgeChannels p1 p2 flowOut pit e s).meter = s.meter ∧
    (judgeChannels p1 p2 flowOut pit e s).levels = s.levels ∧ (judgeChannels p1 p2 flowOut pit e s).modes = s.modes ∧
    (judgeChannels p1 p2 flowOut pit e s).job = s.job ∧
    (judgeChannels p1 p2 flowOut pit e s).pending = s.pending := by
  simp [judgeChannels]

@[simp] theorem addVolume_frame (volume e : Nat) (s : State) :
    (addVolume volume e s).power = s.power ∧ (addVolume volume e s).seconds = s.seconds ∧
    (addVolume volume e s).storeBlank = s.storeBlank ∧ (addVolume volume e s).rack = s.rack ∧
    (addVolume volume e s).tally = s.tally ∧ (addVolume volume e s).depth = s.depth ∧
    (addVolume volume e s).lag = s.lag ∧ (addVolume volume e s).log = s.log ∧ (addVolume volume e s).meter = s.meter ∧
    (addVolume volume e s).levels = s.levels ∧ (addVolume volume e s).ports = s.ports ∧
    (addVolume volume e s).modes = s.modes ∧ (addVolume volume e s).job = s.job ∧
    (addVolume volume e s).pending = s.pending := by
  and_intros <;> rfl

@[simp] theorem setStatus_frame (x : CircStatus) (s : State) :
    (setStatus x s).power = s.power ∧ (setStatus x s).seconds = s.seconds ∧
    (setStatus x s).storeBlank = s.storeBlank ∧ (setStatus x s).rack = s.rack ∧ (setStatus x s).depth = s.depth ∧
    (setStatus x s).meter = s.meter ∧ (setStatus x s).levels = s.levels ∧ (setStatus x s).job = s.job ∧
    (setStatus x s).pending = s.pending := by
  unfold setStatus
  split <;> simp

@[simp] theorem setStatus_tally (x : CircStatus) (s : State) :
    (setStatus x s).tally.bha = s.tally.bha ∧ (setStatus x s).tally.stack = s.tally.stack ∧
    (setStatus x s).tally.handling = s.tally.handling ∧ (setStatus x s).tally.state = s.tally.state ∧
    (setStatus x s).tally.stab = s.tally.stab ∧ (setStatus x s).tally.makeupMin = s.tally.makeupMin ∧
    (setStatus x s).tally.makeupMax = s.tally.makeupMax ∧
    (setStatus x s).tally.earlyConfirms = s.tally.earlyConfirms ∧
    (setStatus x s).tally.lastMove = s.tally.lastMove := by
  unfold setStatus
  split <;> simp

@[simp] theorem clearLoss_frame (s : State) :
    (clearLoss s).power = s.power ∧ (clearLoss s).seconds = s.seconds ∧ (clearLoss s).storeBlank = s.storeBlank ∧
    (clearLoss s).rack = s.rack ∧ (clearLoss s).tally = s.tally ∧ (clearLoss s).depth = s.depth ∧
    (clearLoss s).lag = s.lag ∧ (clearLoss s).log = s.log ∧ (clearLoss s).meter = s.meter ∧
    (clearLoss s).levels = s.levels ∧ (clearLoss s).modes = s.modes ∧ (clearLoss s).job = s.job ∧
    (clearLoss s).pending = s.pending := by
  unfold clearLoss
  split <;> simp

@[simp] theorem clearGain_frame (s : State) :
    (clearGain s).power = s.power ∧ (clearGain s).seconds = s.seconds ∧ (clearGain s).storeBlank = s.storeBlank ∧
    (clearGain s).rack = s.rack ∧ (clearGain s).tally = s.tally ∧ (clearGain s).depth = s.depth ∧
    (clearGain s).lag = s.lag ∧ (clearGain s).log = s.log ∧ (clearGain s).meter = s.meter ∧
    (clearGain s).levels = s.levels ∧ (clearGain s).modes = s.modes ∧ (clearGain s).job = s.job ∧
    (clearGain s).pending = s.pending := by
  unfold clearGain
  split <;> simp

@[simp] theorem updateAlarms_frame (s : State) :
    (updateAlarms s).power = s.power ∧ (updateAlarms s).seconds = s.seconds ∧
    (updateAlarms s).storeBlank = s.storeBlank ∧ (updateAlarms s).rack = s.rack ∧ (updateAlarms s).tally = s.tally ∧
    (updateAlarms s).depth = s.depth ∧ (updateAlarms s).lag = s.lag ∧ (updateAlarms s).log = s.log ∧
    (updateAlarms s).meter = s.meter ∧ (updateAlarms s).levels = s.levels ∧ (updateAlarms s).modes = s.modes ∧
    (updateAlarms s).job = s.job ∧ (updateAlarms s).pending = s.pending := by
  unfold updateAlarms
  split
  · simp
  · split
    · simp
    · split <;> simp

@[simp] theorem balance_frame (flowOut pit e : Nat) (s : State) :
    (balance flowOut pit e s).power = s.power ∧ (balance flowOut pit e s).seconds = s.seconds ∧
    (balance flowOut pit e s).storeBlank = s.storeBlank ∧ (balance flowOut pit e s).rack = s.rack ∧
    (balance flowOut pit e s).tally = s.tally ∧ (balance flowOut pit e s).depth = s.depth ∧
    (balance flowOut pit e s).lag = s.lag ∧ (balance flowOut pit e s).log = s.log ∧
    (balance flowOut pit e s).meter = s.meter ∧ (balance flowOut pit e s).levels = s.levels ∧
    (balance flowOut pit e s).modes = s.modes ∧ (balance flowOut pit e s).job = s.job ∧
    (balance flowOut pit e s).pending = s.pending := by
  simp [balance]

@[simp] theorem tellStrata_frame (d : Option Int) (e : Nat) (gainSet : Bool) (s : State) :
    (tellStrata d e gainSet s).power = s.power ∧ (tellStrata d e gainSet s).seconds = s.seconds ∧
    (tellStrata d e gainSet s).storeBlank = s.storeBlank ∧ (tellStrata d e gainSet s).rack = s.rack ∧
    (tellStrata d e gainSet s).tally = s.tally ∧ (tellStrata d e gainSet s).depth = s.depth ∧
    (tellStrata d e gainSet s).circ = s.circ ∧ (tellStrata d e gainSet s).lag = s.lag ∧
    (tellStrata d e gainSet s).meter = s.meter ∧ (tellStrata d e gainSet s).levels = s.levels ∧
    (tellStrata d e gainSet s).modes = s.modes ∧ (tellStrata d e gainSet s).job = s.job ∧
    (tellStrata d e gainSet s).pending = s.pending := by
  unfold tellStrata
  simp only
  split <;> split <;> simp

@[simp] theorem reportTaken_frame (p1 p2 flowOut pit : Nat) (s : State) :
    ((reportTaken p1 p2 flowOut pit s).state).power = s.power ∧
    ((reportTaken p1 p2 flowOut pit s).state).seconds = s.seconds ∧
    ((reportTaken p1 p2 flowOut pit s).state).storeBlank = s.storeBlank ∧
    ((reportTaken p1 p2 flowOut pit s).state).rack = s.rack ∧
    ((reportTaken p1 p2 flowOut pit s).state).depth = s.depth ∧
    ((reportTaken p1 p2 flowOut pit s).state).meter = s.meter ∧
    ((reportTaken p1 p2 flowOut pit s).state).levels = s.levels ∧
    ((reportTaken p1 p2 flowOut pit s).state).job = s.job ∧
    ((reportTaken p1 p2 flowOut pit s).state).pending = s.pending := by
  simp [reportTaken]

@[simp] theorem reportTaken_tally (p1 p2 flowOut pit : Nat) (s : State) :
    ((reportTaken p1 p2 flowOut pit s).state).tally.bha = s.tally.bha ∧
    ((reportTaken p1 p2 flowOut pit s).state).tally.stack = s.tally.stack ∧
    ((reportTaken p1 p2 flowOut pit s).state).tally.handling = s.tally.handling ∧
    ((reportTaken p1 p2 flowOut pit s).state).tally.state = s.tally.state ∧
    ((reportTaken p1 p2 flowOut pit s).state).tally.stab = s.tally.stab ∧
    ((reportTaken p1 p2 flowOut pit s).state).tally.makeupMin = s.tally.makeupMin ∧
    ((reportTaken p1 p2 flowOut pit s).state).tally.makeupMax = s.tally.makeupMax ∧
    ((reportTaken p1 p2 flowOut pit s).state).tally.earlyConfirms = s.tally.earlyConfirms ∧
    ((reportTaken p1 p2 flowOut pit s).state).tally.lastMove = s.tally.lastMove := by
  simp [reportTaken]
end Sys2Proof.Machine

namespace Sys2Proof.Machine

/-! ### Every command keeps the rods in their places -/

section
variable {s t : State}

/-- A move that passes its checks by the rule `he` keeps the rods in their places: its refusals move no rod. -/
theorem moveRequest_rodsPlaced {p : Port} {code : Nat} {checks : State → List (Bool × ReplyCode)} {effect : State → State}
    (h : moveRequest p code checks effect s = .next t) (hs : RodsPlaced s)
    (he : firstFailing (checks s) = none → RodsPlaced (effect s)) : RodsPlaced t :=
  moveRequest_keeps keptByAnswer_rodsPlaced h hs (fun c => rodsPlaced_congr (placesOf_refuseMove code c s) hs) he

/-- A checked request whose effect looks at no place of a rod. -/
theorem request_placesOf {p : Port} {code : Nat} {checks : State → List (Bool × ReplyCode)} {r : State → Response}
    (h : request p code (fun s => checked (checks s) s (r s)) s = .next t) (hs : RodsPlaced s)
    (hr : placesOf (r s).state = placesOf s) : RodsPlaced t :=
  request_checked_keeps keptByAnswer_rodsPlaced h hs fun _ => rodsPlaced_congr hr hs

theorem readRequest_rodsPlaced {p : Port} {code : Nat} {checks : State → List (Bool × ReplyCode)}
    {payload : State → List Byte} (h : readRequest p code checks payload s = .next t) (hs : RodsPlaced s) :
    RodsPlaced t := readRequest_keeps keptByAnswer_rodsPlaced h hs

theorem occupants_overBay {α : Type} (f : α → Slot → Slot) (hf : ∀ v x, (f v x).occupant = x.occupant) (bay : Nat)
    (values : List α) (k : Rack) :
    (overBay f bay values k).slots.map Slot.occupant = k.slots.map Slot.occupant := by
  have hzip : ∀ (vs : List α) (xs : List Slot),
      (List.zipWith f vs (xs.take vs.length)).map Slot.occupant = (xs.take vs.length).map Slot.occupant := by
    intro vs
    induction vs with
    | nil => simp
    | cons v vs ih => intro xs; cases xs <;> simp [hf, ih]
  simp only [overBay, List.map_append, hzip]
  simp only [← List.map_append, ← List.drop_drop]
  rw [List.append_assoc, List.take_append_drop, List.take_append_drop]

theorem slots_rodsPlaced {slots : List Slot} (hs : RodsPlaced s)
    (h : slots.map Slot.occupant = s.rack.slots.map Slot.occupant) :
    RodsPlaced (s.setRack { s.rack with slots := slots }) :=
  setRack_rodsPlaced hs ((placed_of_rodsPlaced hs).congr h rfl id (by simp) (fun _ => rfl) fun _ _ => .rfl)

theorem registerRodTaken_rodsPlaced {serial length od slot : Nat} (hs : RodsPlaced s)
    (hnew : ¬ ∃ r ∈ s.rack.rods, r.serial = serial) (hroom : s.rack.rods.length < Config.maxRods) (hn : slot ≤ 255)
    (hempty : (slotAt s.rack slot).occupant = none) : RodsPlaced (registerRodTaken serial length od slot s) :=
  setRack_rodsPlaced hs ((placed_of_rodsPlaced hs).register _ hnew (by simp) hroom (lt_slots hs hn) hempty)

theorem rackSenseTaken_rodsPlaced (bay : Nat) (values : List Sensed) (hs : RodsPlaced s) :
    RodsPlaced (rackSenseTaken bay values s) := by
  have hsensed : RodsPlaced (s.setRack (overBay senseSlot bay values s.rack)) :=
    slots_rodsPlaced hs (occupants_overBay _ (fun v x => by unfold senseSlot; split <;> rfl) _ _ _)
  refine rodsPlaced_congr ?_ hsensed
  exact foldl_keeps placesOf (fun s n => raise .rackDiscrepancy n 0 s) (fun _ _ => rfl) _ _

theorem laidOut_lt_of_pass {k : Rack} (h : firstFailing [laidOutFull k] = none) :
    k.laidOut.length < Config.maxLaidOut := by
  simpa [laidOutFull] using h

theorem resolveTaken_rodsPlaced {destination slot : Nat} (hs : RodsPlaced s)
    (hh : s.tally.handling = some (heldSerial s))
    (hd : firstFailing (destinationChecks destination slot s.rack) = none) :
    RodsPlaced (resolveTaken destination slot s) := by
  match destination with
  | 0 => exact resolveToString_rodsPlaced hs hh
  | 1 =>
    obtain ⟨hn, hempty⟩ := putChecks_pass hd
    exact rackHeldRod_rodsPlaced hs hh hn hempty
  | 2 => exact layOutHeldRod_rodsPlaced hs hh (laidOut_lt_of_pass hd)
  | _ + 3 => simp [destinationChecks] at hd

/-! #### The requests of chapter 1 that change the register or the rack (R3 to R6, R11, R12) -/

theorem execRegisterRod_rodsPlaced {p : Port} {serial length od slot : Nat} (hs : RodsPlaced s)
    (h : execRegisterRod p serial length od slot s = .next t) : RodsPlaced t := by
  refine request_checked_keeps keptByAnswer_rodsPlaced h hs fun hpass => ?_
  simp only [firstFailing_eq_none_iff, List.forall_mem_cons] at hpass
  obtain ⟨-, -, hrange, hnew, hroom, hempty, -⟩ := hpass
  refine registerRodTaken_rodsPlaced hs ?_ ?_ ?_ ?_
  · simpa using (Bool.eq_false_iff.mp hnew)
  · simpa using hroom
  · simp only [Bool.or_eq_false_iff, inRange_isNone_eq_false] at hrange
    exact hrange.2.2
  · simpa using hempty

theorem execDeleteRod_rodsPlaced {p : Port} {serial : Nat} (hs : RodsPlaced s)
    (h : execDeleteRod p serial s = .next t) : RodsPlaced t := by
  refine request_checked_keeps keptByAnswer_rodsPlaced h hs fun hpass => ?_
  simp only [firstFailing_eq_none_iff, List.forall_mem_cons] at hpass
  obtain ⟨-, -, -, -, hlaid, -⟩ := hpass
  exact setRack_rodsPlaced hs ((placed_of_rodsPlaced hs).delete (by simpa using hlaid))

theorem execRestoreRod_rodsPlaced {p : Port} {serial slot : Nat} (hs : RodsPlaced s)
    (h : execRestoreRod p serial slot s = .next t) : RodsPlaced t := by
  refine request_checked_keeps keptByAnswer_rodsPlaced h hs fun hpass => ?_
  simp only [firstFailing_eq_none_iff, List.forall_mem_cons] at hpass
  obtain ⟨-, -, hrange, -, hlaid, hempty, -⟩ := hpass
  simp only [Bool.or_eq_false_iff, decide_eq_false_iff_not, Nat.not_lt] at hrange
  exact setRack_rodsPlaced hs
    ((placed_of_rodsPlaced hs).restore (by simpa using hlaid) (lt_slots hs hrange.2) (by simpa using hempty))


/-- A move between two states that hold no rod (R25 to R28). -/
theorem rodsPlaced_of_restate (hs : RodsPlaced s) (state : TallyState) (hfrom : heldState s.tally.state = false)
    (hto : heldState state = false)
    (h : placesOf t = ⟨s.rack, s.tally.stack, s.tally.handling, state, none⟩) : RodsPlaced t :=
  rodsPlaced_of_move state h (by rw [hs.1.1, hfrom, hto]) (placed_of_rodsPlaced hs)

theorem setSlipsTaken_rodsPlaced (hs : RodsPlaced s) (hstate : s.tally.state = .onBlock) : RodsPlaced (setSlipsTaken s) :=
  rodsPlaced_of_restate hs .inSlipsLatched (by simp [hstate, heldState]) rfl (by simp [placesOf, setSlipsTaken])

theorem releaseSlipsTaken_rodsPlaced (hs : RodsPlaced s) (hstate : s.tally.state = .inSlipsLatched) :
    RodsPlaced (releaseSlipsTaken s) :=
  rodsPlaced_of_restate hs .onBlock (by simp [hstate, heldState]) rfl (by simp [placesOf, releaseSlipsTaken])

/-- R35: a stab starts in the two states in which one may run. -/
theorem stab_rodsPlaced (hs : RodsPlaced s) (hstate : s.tally.state ∈ [.rodHeldAdd, .inSlipsFree]) :
    RodsPlaced (moveTo { s.tally with stab := some s.seconds } s) := by
  refine (rodsPlaced_iff _).mpr ⟨⟨by simpa using hs.1.1, fun _ => ?_⟩, by simpa using placed_of_rodsPlaced hs⟩
  simpa [or_comm] using hstate

theorem execReleaseSlips_rodsPlaced {p : Port} {pins : SensePins} (hs : RodsPlaced s)
    (h : execReleaseSlips p pins s = .next t) : RodsPlaced t := by
  have hsensed : RodsPlaced (sensePermits pins s) := rodsPlaced_congr rfl hs
  refine writeTransaction_keeps keptByAnswer_rodsPlaced h hs (respond_keeps keptByAnswer_rodsPlaced ?_)
  refine judgedMove_keeps (fun c => rodsPlaced_congr (placesOf_refuseMove _ c _) hsensed) fun hpass => ?_
  obtain ⟨hstate, -⟩ := moveChecks_append_pass hpass
  exact releaseSlipsTaken_rodsPlaced hsensed (by simpa using hstate)

theorem execReadTally_rodsPlaced {p : Port} {pins : SensePins} (hs : RodsPlaced s)
    (h : execReadTally p pins s = .next t) : RodsPlaced t :=
  writeTransaction_keeps keptByAnswer_rodsPlaced h hs (respond_keeps keptByAnswer_rodsPlaced (rodsPlaced_congr rfl hs))

theorem execBadFrame_rodsPlaced {p : Port} {code : Nat} (hs : RodsPlaced s) (h : execBadFrame p code s = .next t) :
    RodsPlaced t := writeTransaction_keeps keptByAnswer_rodsPlaced h hs (rodsPlaced_congr rfl hs)

theorem execUnknownRequest_rodsPlaced {p : Port} {code : Nat} (hs : RodsPlaced s)
    (h : execUnknownRequest p code s = .next t) : RodsPlaced t :=
  writeTransaction_keeps keptByAnswer_rodsPlaced h hs (rodsPlaced_congr rfl hs)

theorem execPowerOn_rodsPlaced {valid : Bool} (hs : RodsPlaced s) (h : execPowerOn valid s = .next t) :
    RodsPlaced t := by
  unfold execPowerOn at h
  split at h <;> cases h
  · exact powerUp_rodsPlaced valid hs
  · exact powerUp_rodsPlaced valid hs
  · exact rodsPlaced_congr rfl (volatileReset_rodsPlaced hs)
  · exact rodsPlaced_congr rfl (volatileReset_rodsPlaced hs)

theorem execResetAsserted_rodsPlaced (hs : RodsPlaced s) (h : execResetAsserted s = .next t) : RodsPlaced t := by
  unfold execResetAsserted at h
  split at h <;> cases h
  · exact rodsPlaced_congr rfl hs
  · exact rodsPlaced_congr rfl hs
  · exact hs
  · exact hs

theorem execResetReleased_rodsPlaced {valid : Bool} (hs : RodsPlaced s) (h : execResetReleased valid s = .next t) :
    RodsPlaced t := by
  unfold execResetReleased at h
  split at h <;> cases h
  · exact powerUp_rodsPlaced valid hs
  · exact rodsPlaced_congr rfl hs
  · exact hs
  · exact hs

theorem execReadTransaction_rodsPlaced {p : Port} {clocked : Nat} (hs : RodsPlaced s)
    (h : execReadTransaction p clocked s = .next t) : RodsPlaced t := by
  unfold execReadTransaction at h
  split at h <;> cases h
  · exact hs
  · exact hs
  · exact hs
  · exact rodsPlaced_congr rfl hs
  · exact rodsPlaced_congr rfl hs

theorem execEnterStandby_rodsPlaced {p : Port} (hs : RodsPlaced s) (h : execEnterStandby p s = .next t) :
    RodsPlaced t := by
  refine request_keeps keptByAnswer_rodsPlaced h hs ?_
  split
  · exact hs
  · split
    · exact rodsPlaced_congr (by simp [placesOf]) hs
    · exact rodsPlaced_congr (by simp [placesOf]) hs

theorem exec_rodsPlaced (c : Instr) (hs : RodsPlaced s) (h : exec c s = .next t) : RodsPlaced t := by
  cases c with
  | registerRod => exact execRegisterRod_rodsPlaced hs h
  | deleteRod => exact execDeleteRod_rodsPlaced hs h
  | restoreRod => exact execRestoreRod_rodsPlaced hs h
  | setWearLimits =>
    refine request_checked_keeps keptByAnswer_rodsPlaced h hs fun _ => ?_
    exact setRack_rodsPlaced hs ((placed_of_rodsPlaced hs).congr rfl rfl id (by simp) (fun _ => rfl) fun _ _ => .rfl)
  | setSlotSensing =>
    refine request_checked_keeps keptByAnswer_rodsPlaced h hs fun _ => ?_
    exact slots_rodsPlaced hs (occupants_overBay _ (fun on x => by unfold setSensing; split <;> rfl) _ _ _)
  | rackSense => exact request_checked_keeps keptByAnswer_rodsPlaced h hs fun _ => rackSenseTaken_rodsPlaced _ _ hs
  | setSlips =>
    refine moveRequest_rodsPlaced h hs fun hpass => setSlipsTaken_rodsPlaced hs ?_
    simpa using moveChecks_pass hpass
  | releaseSlips => exact execReleaseSlips_rodsPlaced hs h
  | unlatch =>
    refine moveRequest_rodsPlaced h hs fun hpass => ?_
    have hstate := moveChecks_pass hpass
    exact rodsPlaced_of_restate hs .inSlipsFree (by simp_all [heldState]) rfl (by simp [placesOf])
  | latch =>
    refine moveRequest_rodsPlaced h hs fun hpass => ?_
    have hstate := (moveChecks_append_pass hpass).1
    exact rodsPlaced_of_restate hs .inSlipsLatched (by simp_all [heldState]) rfl (by simp [placesOf])
  | breakJoint =>
    refine moveRequest_rodsPlaced h hs fun hpass => ?_
    obtain ⟨hstate, hstack⟩ := moveChecks_append_pass hpass
    exact breakJointTaken_rodsPlaced hs (by simpa using hstate) (by simpa using hstack)
  | pickRod =>
    refine moveRequest_rodsPlaced h hs fun hpass => ?_
    rw [List.append_assoc] at hpass
    obtain ⟨hstate, hrest⟩ := moveChecks_append_pass hpass
    rw [firstFailing_append, Option.or_eq_none_iff] at hrest
    obtain ⟨hn, ho⟩ := takeChecks_pass hrest.2
    exact pickRodTaken_rodsPlaced hs (by simpa using hstate) hn ho
  | stab =>
    refine moveRequest_rodsPlaced h hs fun hpass => rodsPlaced_congr (placesOf_recheck _) (stab_rodsPlaced hs ?_)
    exact moveChecks_pass hpass
  | makeJoint =>
    refine moveRequest_rodsPlaced h hs fun hpass => ?_
    rw [firstFailing_append, Option.or_eq_none_iff] at hpass
    exact makeJointTaken_rodsPlaced hs (handling_of_rodMissing hpass.2).1
  | rackRod =>
    refine moveRequest_rodsPlaced h hs fun hpass => ?_
    rw [List.append_assoc] at hpass
    obtain ⟨hh, hput⟩ := handling_of_rodMissing (moveChecks_append_pass hpass).2
    obtain ⟨hn, ho⟩ := putChecks_pass hput
    exact rackHeldRod_rodsPlaced hs hh hn ho
  | layOutRod =>
    refine moveRequest_rodsPlaced h hs fun hpass => ?_
    obtain ⟨hh, hroom⟩ := handling_of_rodMissing (moveChecks_append_pass hpass).2
    exact layOutHeldRod_rodsPlaced hs hh (laidOut_lt_of_pass hroom)
  | resolveRod =>
    refine moveRequest_rodsPlaced h hs fun hpass => ?_
    rw [firstFailing_append, Option.or_eq_none_iff] at hpass
    have hmissing := (firstFailing_eq_none_iff _).mp hpass.1 (rodMissing s) (by simp [resolveChecks])
    exact resolveTaken_rodsPlaced hs (handling_of_rodMissing (rest := []) (by simp [firstFailing, hmissing])).1 hpass.2
  | deviceSecond => exact whileRunning_keeps h hs (secondPasses_rodsPlaced _ hs)
  | makeupExpired => exact whileRunning_keeps h hs (expireStab_rodsPlaced hs)
  | circStale => exact whileRunning_keeps h hs (rodsPlaced_congr (placesOf_makeStale s) hs)
  | permitFault => exact whileRunning_keeps h hs (rodsPlaced_congr (placesOf_secondComparison ..) hs)
  | pendingModeTaken => exact whileRunning_keeps h hs (rodsPlaced_congr (placesOf_recheck s) hs)
  | sampleArrival => exact whileRunning_keeps h hs (rodsPlaced_congr (by simp [placesOf]) hs)
  | powerOn => exact execPowerOn_rodsPlaced hs h
  | resetAsserted => exact execResetAsserted_rodsPlaced hs h
  | resetReleased => exact execResetReleased_rodsPlaced hs h
  | powerLoss => cases h; exact rodsPlaced_congr rfl (volatileReset_rodsPlaced hs)
  | readRod | readRodList | readSlot | readLaidOutList | readWearLimits | readStack | readBha | readMakeupLimits
  | readDepth | readCirculation | readChannel | readPumps | readCasingProgram | readAnnulus | readLagQueue | readLog
  | readInterval | readIntervalAtDepth | readSamples | readTicket | readRateCard | readJobTotals | readNoticeStatus
  | readNoticeLevels | readMode | readPortStatus | readJob => exact readRequest_rodsPlaced h hs
  | setBha | setMakeupLimits | block | downStart | downEnd | setPump | setCirculationLimits | circulation | additive
  | setCasingProgram | sampleCaught | setDrillBreak | reArm | classify | confirm | merge | split | waterStrike
  | clearWaterStrike | setBandRates | setTierMultipliers | setHourlyRates | setAdditivePrices | closeTicket
  | acknowledgeTicket | setNoticeLevels | setNoticeFilter | enterWatch | cancelMode
  | setWakeTable | openJob | closeJob =>
    exact request_placesOf h hs (by simp [placesOf])
  | enterSetup | enterRun => exact request_placesOf h hs (by split <;> simp [placesOf, refuseIncomplete])
  | enterStandby => exact execEnterStandby_rodsPlaced hs h
  | portReset | readNotice | readSummary =>
    exact request_keeps keptByAnswer_rodsPlaced h hs (rodsPlaced_congr (by simp [placesOf]) hs)
  | readTally => exact execReadTally_rodsPlaced hs h
  | readTransaction => exact execReadTransaction_rodsPlaced hs h
  | badFrame => exact execBadFrame_rodsPlaced hs h
  | unknownRequest => exact execUnknownRequest_rodsPlaced hs h

end

/-- Settles O5: no command breaks `RodsPlaced` (`exec_rodsPlaced`), and the queue is none of the places. -/
theorem stepKeepsRodsPlaced : Obligations.StepKeepsRodsPlaced := fun s t hs h =>
  step_keeps RodsPlaced (fun _ _ h => h) (fun c _ _ hs h => exec_rodsPlaced c hs h) s t hs h

end Sys2Proof.Machine

namespace Sys2Proof.Machine

/-! ### A request's checks against the conditions of its rule -/

section
variable {p : Port} {code : Nat} {s next : State} {b : Bool} {c : ReplyCode} {rest : List (Bool × ReplyCode)}
  {q : Prop} {_ : Decidable q}

/-- A request on a running part leaves what its response settles to. -/
theorem request_eq {body : State → Response} (h : s.power = .running) (hb : settledBy p code (body s) = next) :
    request p code body s = .next next :=
  hb ▸ request_settled p code body s h

/-- The first check of a list: refused where it holds, and otherwise the checks after it. -/
theorem settledBy_check {r : Response} (hq : b = true ↔ q)
    (hrest : ¬ q → settledBy p code (checked rest s r) = next) :
    settledBy p code (checked ((b, c) :: rest) s r) = if q then settled p code c [] s else next := by
  rw [settledBy_checked_cons]
  by_cases h : q
  · simp [h, hq.mpr h]
  · simp [h, mt hq.mp h, hrest h]

end

theorem onlyFrom_floor (p : Port) : (!([Port.floor].contains p)) = true ↔ p ≠ .floor := by simp

theorem onlyInSetup_iff (s : State) : (s.modes.mode != .setup) = true ↔ s.modes.mode ≠ .setup := by simp

/-! ### The rod register and the wear limits (R3 to R6) -/

/-- Settles O17: the checks of R3 and R4 one by one, and then the record, the slot and the list by definition. -/
theorem rodRegisterRequests : Obligations.RodRegisterRequests := by
  refine ⟨fun p serial length od slot s h => request_eq h ?_, fun p serial s h => request_eq h ?_⟩
  · refine settledBy_check (onlyFrom_floor p) fun _ => ?_
    refine settledBy_check (onlyInSetup_iff s) fun _ => ?_
    refine settledBy_check (by simp only [Bool.or_eq_true, inRange_isNone]; omega) fun _ => ?_
    refine settledBy_check (findRod_isSome _ _) fun _ => ?_
    refine settledBy_check decide_eq_true_iff fun _ => ?_
    refine settledBy_check Option.isSome_iff_ne_none fun _ => ?_
    exact settledBy_taken p 1 (registerRodTaken serial length od slot s)
  · refine settledBy_check (onlyFrom_floor p) fun _ => ?_
    refine settledBy_check (onlyInSetup_iff s) fun _ => ?_
    refine settledBy_check beq_iff_eq fun _ => ?_
    refine settledBy_check (findRod_isNone _ _) fun _ => ?_
    refine settledBy_check (by simp) fun _ => ?_
    exact settledBy_taken ..

/-- Settles O18: the checks of R5 and R6 one by one, and then what each stores by definition. -/
theorem restoreRodAndWearLimits : Obligations.RestoreRodAndWearLimits := by
  refine ⟨fun p serial slot s h => request_eq h ?_, fun p joints hours s h => request_eq h ?_⟩
  · refine settledBy_check (onlyFrom_floor p) fun _ => ?_
    refine settledBy_check (onlyInSetup_iff s) fun _ => ?_
    refine settledBy_check (by simp) fun _ => ?_
    refine settledBy_check (findRod_isNone _ _) fun _ => ?_
    refine settledBy_check (by simp) fun _ => ?_
    refine settledBy_check Option.isSome_iff_ne_none fun _ => ?_
    exact settledBy_taken p 3 (restoreRodTaken serial slot s)
  · refine settledBy_check (onlyFrom_floor p) fun _ => ?_
    refine settledBy_check (onlyInSetup_iff s) fun _ => ?_
    refine settledBy_check (by simp only [Bool.or_eq_true, inRange_isNone]; omega) fun _ => ?_
    exact settledBy_taken ..

end Sys2Proof.Machine

namespace Sys2Proof.Machine

/-! ### The slots of a bay (R11, R12) -/

/-- A list whose values all read is read value by value. -/
theorem readAll_eq_map {α : Type} {value : Nat → Option α} {g : Nat → α} {vs : List Nat}
    (h : ∀ v ∈ vs, value v = some (g v)) : readAll value vs = some (vs.map g) := by
  induction vs with
  | nil => rfl
  | cons v vs ih =>
    obtain ⟨hv, hvs⟩ := List.forall_mem_cons.mp h
    simp [readAll, hv, ih hvs]

/-- A list is refused exactly where one of its values is. -/
theorem readAll_isNone {α : Type} (value : Nat → Option α) (vs : List Nat) :
    (readAll value vs).isNone = true ↔ ∃ v ∈ vs, (value v).isNone = true := by
  induction vs with
  | nil => simp [readAll]
  | cons v vs ih =>
    simp only [List.mem_cons, exists_eq_or_imp, ← ih, readAll]
    cases value v <;> cases readAll value vs <;> simp

theorem switchOf_of_le_one {v : Nat} (h : v ≤ 1) : switchOf v = some (decide (v = 1)) := by
  match v, h with
  | 0, _ => rfl
  | 1, _ => rfl

theorem presenceOf_of_le_one {v : Nat} (h : v ≤ 1) : presenceOf v = some (if v = 1 then .present else .absent) := by
  match v, h with
  | 0, _ => rfl
  | 1, _ => rfl

theorem switchOf_isNone (v : Nat) : (switchOf v).isNone = true ↔ 1 < v := by
  match v with
  | 0 => simp [switchOf]
  | 1 => simp [switchOf]
  | n + 2 => simp [switchOf]

theorem presenceOf_isNone (v : Nat) : (presenceOf v).isNone = true ↔ 1 < v := by
  match v with
  | 0 => simp [presenceOf]
  | 1 => simp [presenceOf]
  | n + 2 => simp [presenceOf]

/-- The slots of a bay take the values in slot order, and the other slots stay. -/
theorem overBay_slots {α : Type} (f : α → Slot → Slot) (bay : Nat) (values : List α) (d : α) (k : Rack) :
    (overBay f bay values k).slots = k.slots.mapIdx fun n x =>
      if 32 * bay ≤ n ∧ n < 32 * bay + values.length then f (values.getD (n - 32 * bay) d) x else x := by
  refine List.ext_getElem (by simp [overBay]; omega) fun n _ hn => ?_
  rw [List.length_mapIdx] at hn
  simp only [overBay, List.append_assoc, List.getElem_mapIdx]
  rcases Nat.lt_or_ge n (32 * bay) with hbefore | hfrom
  · rw [List.getElem_append_left (by simp; omega)]
    simp [Nat.not_le.mpr hbefore]
  · have hfirst : (k.slots.take (32 * bay)).length = 32 * bay := by simp; omega
    rw [List.getElem_append_right (by simp; omega)]
    rcases Nat.lt_or_ge n (32 * bay + values.length) with hin | hafter
    · rw [List.getElem_append_left (by simp; omega)]
      have hi : n - 32 * bay < values.length := by omega
      simp [hfirst, hfrom, hin, hi]
    · rw [List.getElem_append_right (by simp; omega)]
      simp only [List.getElem_drop, hfirst, Nat.not_lt.mpr hafter, and_false, if_false]
      congr 1
      simp
      omega

/-- The slots of a bay, where each value is made from a number of the frame. -/
theorem overBay_map_slots {α : Type} (f : α → Slot → Slot) (g : Nat → α) (bay : Nat) (values : List Nat) (k : Rack) :
    (overBay f bay (values.map g) k).slots = k.slots.mapIdx fun n x =>
      if 32 * bay ≤ n ∧ n < 32 * bay + values.length then f (g (values.getD (n - 32 * bay) 0)) x else x := by
  rw [overBay_slots f bay (values.map g) (g 0) k]
  simp only [List.length_map, List.getD_eq_getElem?_getD, List.getElem?_map, Option.getD_map]

/-- R11: an enable value that is 0 or 1. -/
theorem setSensing_value {v : Nat} (h : v ≤ 1) (x : Slot) :
    setSensing (decide (v = 1)) x =
      if x.sensing = true ∧ v = 0 then { x with sensing := false, sensed := .unknown, discrepancy := false }
      else { x with sensing := decide (v = 1) } := by
  have hv : v = 0 ∨ v = 1 := by omega
  rcases hv with rfl | rfl <;> simp [setSensing]

/-- R10, R12: the presence of a slot among those sensed, with the flag written out. -/
theorem senseSlot_within {P : Prop} [Decidable P] (v : Nat) (x : Slot) :
    (if P then senseSlot (if v = 1 then .present else .absent) x else x) =
      if P ∧ x.sensing = true then
        if v = 1 then { x with sensed := .present, discrepancy := x.occupant.isNone }
        else { x with sensed := .absent, discrepancy := x.occupant.isSome }
      else x := by
  by_cases hP : P
  · cases hsensing : x.sensing with
    | false => simp [hP, senseSlot, hsensing]
    | true =>
      by_cases hv : v = 1
      · simp [hP, hv, senseSlot, slotDisagrees, hsensing]
      · simp [hP, hv, senseSlot, slotDisagrees, hsensing]
  · simp [hP]

theorem getD_le_one {vs : List Nat} (h : ∀ v ∈ vs, v ≤ 1) (n : Nat) : vs.getD n 0 ≤ 1 := by
  rw [List.getD_eq_getElem?_getD]
  cases hv : vs[n]? with
  | none => simp
  | some v => exact h v (List.mem_of_getElem? hv)

theorem le_one_of_inRange {bay : Nat} {values : List Nat} (h : ¬ (7 < bay ∨ ∃ v ∈ values, 1 < v)) :
    ∀ v ∈ values, v ≤ 1 :=
  fun v hv => Nat.le_of_not_lt fun hlt => h (.inr ⟨v, hv, hlt⟩)

/-- Settles O19: the values read one by one, the slots of the bay slot by slot. -/
theorem slotSensingRequests : Obligations.SlotSensingRequests := by
  refine ⟨fun p bay enables s h hlen => request_eq h ?_, fun p bay presence s h hlen => request_eq h ?_⟩
  · refine settledBy_check (onlyFrom_floor p) fun _ => ?_
    refine settledBy_check (onlyInSetup_iff s) fun _ => ?_
    refine settledBy_check (by simp only [Bool.or_eq_true, decide_eq_true_eq, readAll_isNone, switchOf_isNone])
      fun hvalues => ?_
    have hvalues := le_one_of_inRange hvalues
    have hslots := overBay_map_slots setSensing (fun v => decide (v = 1)) bay enables s.rack
    simp only [setSensing_value (getD_le_one hvalues _), hlen] at hslots
    rw [settledBy_checked_nil, settledBy_taken, readAll_eq_map fun v hv => switchOf_of_le_one (hvalues v hv), ← hslots]
    rfl
  · refine settledBy_check (onlyFrom_floor p) fun _ => ?_
    refine settledBy_check (by simp only [Bool.or_eq_true, decide_eq_true_eq, readAll_isNone, presenceOf_isNone])
      fun hvalues => ?_
    have hvalues := le_one_of_inRange hvalues
    have hslots := overBay_map_slots senseSlot (fun v => if v = 1 then .present else .absent) bay presence s.rack
    simp only [senseSlot_within, hlen, and_assoc] at hslots
    rw [settledBy_checked_nil, settledBy_taken, readAll_eq_map fun v hv => presenceOf_of_le_one (hvalues v hv), ← hslots]
    rfl

end Sys2Proof.Machine

namespace Sys2Proof.Machine

/-! ### Wear (R7, R8, R9) -/

theorem wornOut_iff (k : Rack) (r : Rod) :
    wornOut k r = true ↔
      r.status = .ok ∧ (k.jointLimit ≤ r.jointsMade ∨ k.hourLimit * 3600 ≤ r.rotatingSeconds) := by
  simp [wornOut]

/-- R9: a rod after its wear check. -/
def wornRod (k : Rack) (r : Rod) : Rod := if wornOut k r then { r with status := .worn } else r

@[simp] theorem wornRod_serial (k : Rack) (r : Rod) : (wornRod k r).serial = r.serial := by
  unfold wornRod
  split <;> rfl

/-- R9: a rod wears out once. -/
@[simp] theorem wornRod_wornRod (k : Rack) (r : Rod) : wornRod k (wornRod k r) = wornRod k r := by
  unfold wornRod
  split
  · simp [wornOut]
  · rfl

/-- The register after the wear checks of several rods. -/
def wornRack (serials : List Nat) (k : Rack) : Rack :=
  { k with rods := k.rods.map fun r => if r.serial ∈ serials then wornRod k r else r }

@[simp] theorem wornRack_serials (serials : List Nat) (k : Rack) :
    (wornRack serials k).rods.map Rod.serial = k.rods.map Rod.serial := by
  simp only [wornRack, List.map_map]
  refine List.map_congr_left fun r _ => ?_
  simp only [Function.comp]
  split <;> simp

theorem findRod_some {rods : List Rod} {serial : Nat} {r : Rod} (h : findRod rods serial = some r) :
    r ∈ rods ∧ r.serial = serial :=
  ⟨List.mem_of_find?_eq_some h, by simpa using List.find?_some h⟩

/-- A rack whose rods of one serial are what the wear check makes of them. -/
theorem eq_wornRack {k : Rack} {serial : Nat} (f : Rod → Rod)
    (hf : ∀ r ∈ k.rods, r.serial = serial → f r = wornRod k r) :
    { k with rods := modifyRod serial f k.rods } = wornRack [serial] k := by
  simp only [wornRack, modifyRod, List.mem_singleton]
  congr 1
  refine List.map_congr_left fun r hr => ?_
  split
  · exact hf r hr ‹_›
  · rfl

/-- The wear check of one serial changes the one rod that carries it, if it is worn out. -/
theorem wearCheck_rack (serial : Nat) (s : State) (h : (s.rack.rods.map Rod.serial).Pairwise (· < ·)) :
    (wearCheck serial s).rack = wornRack [serial] s.rack := by
  have hsame : s.rack = { s.rack with rods := modifyRod serial id s.rack.rods } := by simp [modifyRod]
  unfold wearCheck
  split
  next r hr =>
    have only : ∀ x ∈ s.rack.rods, x.serial = serial → x = r := by
      rintro x hx rfl
      simpa [findRod_of_mem h hx] using hr
    split
    next hworn =>
      refine eq_wornRack _ fun x hx hserial => ?_
      simp [only x hx hserial, wornRod, hworn]
    next hgood =>
      refine hsame.trans (eq_wornRack _ fun x hx hserial => ?_)
      simp [only x hx hserial, wornRod, hgood]
  next hnone =>
    refine hsame.trans (eq_wornRack _ fun x hx hserial => ?_)
    simp [← hserial, findRod_of_mem h hx] at hnone

theorem wornRack_wornRack (x : Nat) (xs : List Nat) (k : Rack) :
    wornRack xs (wornRack [x] k) = wornRack (x :: xs) k := by
  simp only [wornRack, List.map_map]
  congr 1
  refine List.map_congr_left fun r _ => ?_
  have hlimits : ∀ rods, wornRod { k with rods := rods } = wornRod k := fun _ => rfl
  simp only [Function.comp, hlimits, List.mem_cons]
  by_cases hx : r.serial = x <;> by_cases hxs : r.serial ∈ xs <;> simp_all

/-- R9: the wear checks of several rods, a serial standing there once or more. -/
theorem wearChecks_rack (serials : List Nat) (s : State) (h : (s.rack.rods.map Rod.serial).Pairwise (· < ·)) :
    (wearChecks serials s).rack = wornRack serials s.rack := by
  unfold wearChecks
  induction serials generalizing s with
  | nil => simp [wornRack]
  | cons x xs ih =>
    have hx := wearCheck_rack x s h
    rw [List.foldl_cons, ih _ (by rw [hx, wornRack_serials]; exact h), hx, wornRack_wornRack]

/-- R9: ROD_WORN raised for each of some rods, in order. -/
def noteWear (rods : List Rod) (s : State) : State :=
  rods.foldl (fun t r => raise .rodWorn r.serial r.jointsMade t) s

/-- The rods of some serials that a wear check finds worn out. -/
def wornAmong (k : Rack) (serials : List Nat) : List Rod := (serials.filterMap (findRod k.rods)).filter (wornOut k)

theorem wornAmong_cons (k : Rack) (x : Nat) (xs : List Nat) :
    wornAmong k (x :: xs) = wornAmong k [x] ++ wornAmong k xs := by
  rw [← List.singleton_append]
  simp only [wornAmong, List.filterMap_append, List.filter_append]

theorem noteWear_append (xs ys : List Rod) (s : State) : noteWear (xs ++ ys) s = noteWear ys (noteWear xs s) :=
  List.foldl_append

/-- A notice looks at no rod. -/
theorem noteWear_setRack (rods : List Rod) (k : Rack) (s : State) :
    noteWear rods (s.setRack k) = (noteWear rods s).setRack k := by
  unfold noteWear
  induction rods generalizing s with
  | nil => rfl
  | cons r rs ih => exact ih (raise .rodWorn r.serial r.jointsMade s)

theorem wearCheck_eq (serial : Nat) (s : State) :
    wearCheck serial s = (noteWear (wornAmong s.rack [serial]) s).setRack (wearCheck serial s).rack := by
  unfold wearCheck
  split
  next r hr =>
    split
    next hworn => simp [wornAmong, noteWear, hr, hworn, (findRod_some hr).2]; rfl
    next hgood => simp [wornAmong, noteWear, hr, hgood]; rfl
  next hnone => simp [wornAmong, noteWear, hnone]; rfl

/-- Two searches that agree on every serial asked for find the same rods. -/
theorem filterMap_eq_of_agree {f g : Nat → Option Rod} {serials : List Nat} (h : ∀ x ∈ serials, f x = g x) :
    serials.filterMap f = serials.filterMap g := by
  induction serials with
  | nil => rfl
  | cons x xs ih =>
    obtain ⟨hx, hxs⟩ := List.forall_mem_cons.mp h
    rw [List.filterMap_cons, List.filterMap_cons, hx, ih hxs]

theorem findRod_map {rods : List Rod} {f : Rod → Rod} (hf : ∀ r, (f r).serial = r.serial) (serial : Nat) :
    findRod (rods.map f) serial = (findRod rods serial).map f := by
  simp only [findRod, List.find?_map, Function.comp_def, hf]

/-- The wear check of one serial leaves every other rod as it is. -/
theorem findRod_wornRack_ne {k : Rack} {x y : Nat} (h : y ≠ x) :
    findRod (wornRack [x] k).rods y = findRod k.rods y := by
  rw [wornRack, findRod_map fun r => by split <;> simp]
  cases hr : findRod k.rods y with
  | none => rfl
  | some r => simp [(findRod_some hr).2, h]

theorem wornAmong_wornRack {k : Rack} {x : Nat} {xs : List Nat} (h : x ∉ xs) :
    wornAmong (wornRack [x] k) xs = wornAmong k xs := by
  have hfound : xs.filterMap (findRod (wornRack [x] k).rods) = xs.filterMap (findRod k.rods) :=
    filterMap_eq_of_agree fun y hy => findRod_wornRack_ne fun hyx => h (hyx ▸ hy)
  rw [wornAmong, hfound]
  rfl

/-- R9: the wear checks of several rods, no serial twice: ROD_WORN for each rod worn out, in their order. -/
theorem wearChecks_eq (serials : List Nat) (s : State) (h : (s.rack.rods.map Rod.serial).Pairwise (· < ·))
    (hnodup : serials.Nodup) :
    wearChecks serials s = (noteWear (wornAmong s.rack serials) s).setRack (wornRack serials s.rack) := by
  rw [← wearChecks_rack serials s h]
  induction serials generalizing s with
  | nil => rfl
  | cons x xs ih =>
    obtain ⟨hx, hxs⟩ := List.nodup_cons.mp hnodup
    have hrack := wearCheck_rack x s h
    have hcons : wearChecks (x :: xs) s = wearChecks xs (wearCheck x s) := rfl
    have htail := ih (wearCheck x s) (by rw [hrack, wornRack_serials]; exact h) hxs
    rw [hrack, wornAmong_wornRack hx] at htail
    have hnotes : noteWear (wornAmong s.rack xs) (wearCheck x s) =
        (noteWear (wornAmong s.rack (x :: xs)) s).setRack (wearCheck x s).rack := by
      rw [wornAmong_cons, noteWear_append, ← noteWear_setRack, ← wearCheck_eq]
    rw [hcons, htail, hnotes]
    rfl

/-- Counting keeps the serials of the register. -/
theorem countRods_serials {serials : List Nat} {f : Rod → Rod} {s : State} (hf : ∀ r, (f r).serial = r.serial) :
    (countRods serials f s).rack.rods.map Rod.serial = s.rack.rods.map Rod.serial := by
  simp only [countRods, State.setRack_rack, List.map_map]
  refine List.map_congr_left fun r _ => ?_
  simp only [Function.comp]
  split <;> simp [hf]

/-- The register counted and then checked for wear. -/
theorem wornRack_counted {serials : List Nat} {f : Rod → Rod} {k : Rack} (hf : ∀ r, (f r).serial = r.serial) :
    wornRack serials { k with rods := k.rods.map fun r => if serials.contains r.serial then f r else r } =
      { k with rods := k.rods.map fun r => if r.serial ∈ serials then wornRod k (f r) else r } := by
  simp only [wornRack, List.map_map]
  congr 1
  refine List.map_congr_left fun r _ => ?_
  have hlimits : ∀ rods, wornRod { k with rods := rods } = wornRod k := fun _ => rfl
  by_cases hr : r.serial ∈ serials <;> simp [hr, hf, hlimits]

/-- The rods of some serials, found in a register in which those serials were counted. -/
theorem filterMap_findRod_counted {serials : List Nat} {rods : List Rod} {f : Rod → Rod}
    (hf : ∀ r, (f r).serial = r.serial) :
    serials.filterMap (findRod (rods.map fun r => if serials.contains r.serial then f r else r)) =
      (serials.filterMap (findRod rods)).map f := by
  rw [List.map_filterMap]
  refine filterMap_eq_of_agree fun y hy => ?_
  rw [findRod_map fun r => by split <;> simp [hf]]
  cases hr : findRod rods y with
  | none => rfl
  | some r => simp [(findRod_some hr).2, hy]

/-- R7, R8, R9: rods counted by a rule that keeps their serials and then checked for wear: the register, and ROD_WORN for each
rod worn out, in the order of the serials. -/
theorem wearChecks_countRods {serials : List Nat} {f : Rod → Rod} {s : State} {wears : Rod → Prop} [DecidablePred wears]
    (hf : ∀ r, (f r).serial = r.serial) (hwears : ∀ r, wornOut s.rack (f r) = true ↔ wears r)
    (h : (s.rack.rods.map Rod.serial).Pairwise (· < ·)) (hnodup : serials.Nodup) :
    wearChecks serials (countRods serials f s) =
      ((serials.filterMap (findRod s.rack.rods)).foldl
        (fun t r => if wears r then raise .rodWorn r.serial (f r).jointsMade t else t) s).setRack
        { s.rack with rods := s.rack.rods.map fun r =>
            if r.serial ∈ serials then if wears r then { f r with status := .worn } else f r else r } := by
  have hnotes : ∀ rods : List Rod, noteWear ((rods.map f).filter (wornOut s.rack)) s =
      rods.foldl (fun t r => if wears r then raise .rodWorn r.serial (f r).jointsMade t else t) s := by
    intro rods
    simp only [noteWear, List.filter_map, List.foldl_map, List.foldl_filter, Function.comp, hwears, hf]
  have hrods : ∀ r, wornRod s.rack (f r) = if wears r then { f r with status := .worn } else f r :=
    fun r => ite_congr (propext (hwears r)) (fun _ => rfl) fun _ => rfl
  simp only [← hnotes, ← hrods]
  rw [wearChecks_eq _ _ (by rw [countRods_serials hf]; exact h) hnodup, wornAmong, countRods, State.setRack_rack,
    filterMap_findRod_counted hf, noteWear_setRack, wornRack_counted hf]
  rfl

end Sys2Proof.Machine

namespace Sys2Proof.Machine

/-- R7: a rod that has rotated for one more second. -/
def secondCounted (r : Rod) : Rod := { r with rotatingSeconds := satAdd Config.max32 r.rotatingSeconds 1 }

/-- R8: a rod that has made one more joint. -/
def jointCounted (r : Rod) : Rod := { r with jointsMade := satAdd Config.max16 r.jointsMade 1 }

@[simp] theorem secondCounted_serial (r : Rod) : (secondCounted r).serial = r.serial := rfl
@[simp] theorem jointCounted_serial (r : Rod) : (jointCounted r).serial = r.serial := rfl

theorem wornOut_secondCounted (k : Rack) (r : Rod) :
    wornOut k (secondCounted r) = true ↔
      r.status = .ok ∧ (k.jointLimit ≤ r.jointsMade ∨ k.hourLimit * 3600 ≤ (secondCounted r).rotatingSeconds) :=
  wornOut_iff k (secondCounted r)

theorem wornOut_jointCounted (k : Rack) (r : Rod) :
    wornOut k (jointCounted r) = true ↔
      r.status = .ok ∧ (k.jointLimit ≤ (jointCounted r).jointsMade ∨ k.hourLimit * 3600 ≤ r.rotatingSeconds) :=
  wornOut_iff k (jointCounted r)

theorem wearSecond_rotating (s : State) (h : s.depth.rotation = true) :
    wearSecond s = wearChecks s.tally.stack (countRods s.tally.stack secondCounted s) := if_pos h

theorem wearSecond_still (s : State) (h : s.depth.rotation = false) : wearSecond s = s := by simp [wearSecond, h]

/-- R7, R9: the register after the wear counts of a device second. -/
theorem wearSecond_rack (s : State) (h : (s.rack.rods.map Rod.serial).Pairwise (· < ·)) :
    (wearSecond s).rack = { s.rack with rods := s.rack.rods.map (fun r =>
      if s.depth.rotation = true ∧ r.serial ∈ s.tally.stack then wornRod s.rack (secondCounted r) else r) } := by
  cases hrot : s.depth.rotation with
  | false => simp [wearSecond_still s hrot]
  | true =>
    rw [wearSecond_rotating s hrot, wearChecks_rack _ _ (by rw [countRods_serials secondCounted_serial]; exact h), countRods,
      State.setRack_rack, wornRack_counted secondCounted_serial]
    simp only [true_and]

theorem overdueExpiries_stack (s : State) : (overdueExpiries s).tally.stack = s.tally.stack := by
  unfold overdueExpiries makeStale expireStab
  split <;> split <;> simp

/-- R7, R9: of the work of a second, the wear counts alone change the register. -/
theorem secondPasses_rack (pins : SensePins) (s : State) :
    (secondPasses pins s).rack = (wearSecond (advanceSeconds (overdueExpiries s))).rack := by
  simp [secondPasses]

/-- Settles O33: the counts and the wear checks of a list of serials (`wearChecks_countRods`), for the stack at a second and for
the one or two rods of a joint. -/
theorem rodsCountedAndWorn : Obligations.RodsCountedAndWorn := by
  refine ⟨fun pins s h hasc => ⟨secondPasses pins s, whileRunning_running _ s h, ?_⟩, wearSecond_still,
    fun s hrot hasc hnodup => ?_, fun picked r s hasc hr hpicked => ?_,
    fun picked below r b s hasc hne hr hpicked hb hbelow => ?_⟩
  · rw [secondPasses_rack, wearSecond_rack _ (by simpa [advanceSeconds] using hasc)]
    simp only [advanceSeconds, State.setSeconds_rack, State.setSeconds_depth, State.setSeconds_tally,
      overdueExpiries_frame, overdueExpiries_stack, wornRod, wornOut_secondCounted]
    rfl
  · have hcount := wearChecks_countRods secondCounted_serial (wornOut_secondCounted s.rack) hasc hnodup
    rw [wearSecond_rotating s hrot, hcount]
    simp only [List.foldl_filter, decide_eq_true_eq]
    rfl
  · subst hpicked
    have hfound : [r.serial].filterMap (findRod s.rack.rods) = [r] := by simp [findRod_of_mem hasc hr]
    have hcount := wearChecks_countRods jointCounted_serial (wornOut_jointCounted s.rack) hasc (List.pairwise_singleton _ r.serial)
    simp only [hfound, List.mem_singleton] at hcount
    exact hcount
  · subst hpicked hbelow
    have hfound : [r.serial, b.serial].filterMap (findRod s.rack.rods) = [r, b] := by
      simp [findRod_of_mem hasc hr, findRod_of_mem hasc hb]
    have hnodup : [r.serial, b.serial].Nodup := by simpa using hne
    have hcount := wearChecks_countRods jointCounted_serial (wornOut_jointCounted s.rack) hasc hnodup
    simp only [hfound, List.mem_cons, List.not_mem_nil, or_false] at hcount
    exact hcount

end Sys2Proof.Machine

namespace Sys2Proof.Machine

/-! ### The permit levels of a tally state (R38, R39) -/

section
variable {t : Tally} {m : Modes}

theorem slipsLevel_latched (ht : t.state = .inSlipsLatched) (hstab : t.stab = none) (hm : m.mode ≠ .standby) :
    slipsLevel t m = true := by simp [slipsLevel, ht, hstab, hm]

theorem pumpLevel_latched (ht : t.state = .inSlipsLatched) (hm : m.mode ≠ .standby) : pumpLevel t m = true := by
  simp [pumpLevel, ht, hm]

theorem slipsLevel_elsewhere (ht : t.state ≠ .inSlipsLatched) : slipsLevel t m = false := by simp [slipsLevel, ht]

theorem pumpLevel_elsewhere (ht : t.state ≠ .inSlipsLatched) (hb : t.state ≠ .onBlock) : pumpLevel t m = false := by
  simp [pumpLevel, ht, hb]

end

/-- R24, R38, R39: a tally taken, with the two levels it gives. -/
theorem moveTo_eq {x : Tally} {s : State} {slips pump : Bool} (hslips : slipsLevel x s.modes = slips)
    (hpump : pumpLevel x s.modes = pump) :
    moveTo x s = { s with tally := { x with
      lastMove := some s.seconds, slips := { x.slips with drive := slips }, pump := { x.pump with drive := pump } } } := by
  subst hslips hpump
  rfl

/-! ### The checks of a move against the conditions of its rule (R23, R36) -/

section
variable {p : Port} {code : Nat} {s next : State} {b : Bool} {c : ReplyCode} {rest : List (Bool × ReplyCode)}
  {r : Response} {states : List TallyState}

theorem moveRequest_eq {checks : State → List (Bool × ReplyCode)} {effect : State → State} (h : s.power = .running)
    (hr : settledBy p code (judgedMove code (checks s) s (taken (effect s))) = next) :
    moveRequest p code checks effect s = .next next := hr ▸ moveRequest_settled p code checks effect s h

theorem settledBy_refuseMove_sequence (p : Port) (code : Nat) (s : State) :
    settledBy p code (refuseMove code .sequence s) = moveRefused p code s := settledBy_refuse ..

/-- The first check of a move: refused where it holds, and otherwise the checks after it. -/
theorem settledBy_moveCheck {q : Prop} {_ : Decidable q} {refused : State} (hq : b = true ↔ q)
    (hrefused : settledBy p code (refuseMove code c s) = refused)
    (hrest : ¬ q → settledBy p code (judgedMove code rest s r) = next) :
    settledBy p code (judgedMove code ((b, c) :: rest) s r) = if q then refused else next := by
  rw [settledBy_judgedMove_cons, hrefused]
  by_cases h : q
  · simp [h, hq.mpr h]
  · simp [h, mt hq.mp h, hrest h]

/-- Two checks of a move that refuse alike. -/
theorem settledBy_moveCheck_or {b' : Bool} {q q' : Prop} {_ : Decidable (q ∨ q')} {refused : State} (hq : b = true ↔ q)
    (hq' : b' = true ↔ q') (hrefused : settledBy p code (refuseMove code c s) = refused)
    (hrest : ¬ q' → settledBy p code (judgedMove code rest s r) = next) :
    settledBy p code (judgedMove code ((b, c) :: (b', c) :: rest) s r) = if q ∨ q' then refused else next := by
  rw [settledBy_judgedMove_cons, settledBy_judgedMove_cons, hrefused]
  by_cases h : q
  · simp [h, hq.mpr h]
  · by_cases h' : q'
    · simp [h', hq'.mpr h']
    · simp [h, h', mt hq.mp h, mt hq'.mp h', hrest h']

/-- R23: the checks that every move shares. -/
theorem settledBy_moveChecks
    (hrest : s.modes.mode ≠ .standby → s.tally.state ∈ states → settledBy p code (judgedMove code rest s r) = next) :
    settledBy p code (judgedMove code (moveChecks p states s ++ rest) s r) = moveOutcome p code states s next := by
  unfold moveOutcome
  refine settledBy_moveCheck (onlyFrom_floor p) (settledBy_refuse ..) fun _ => ?_
  refine settledBy_moveCheck (by simp) (settledBy_refuse ..) fun hmode => ?_
  simp only [← or_assoc]
  refine settledBy_moveCheck_or (by simp) (by simp) (settledBy_refuse ..) fun hstate => ?_
  exact hrest (fun h => hmode (.inr h)) (Decidable.not_not.mp hstate)

/-- R28, R31, R36: the checks of a confirmation, for the rod its notice names. -/
theorem settledBy_confirmChecks {serial : Nat} (hserial : makeupSerial s.tally = serial)
    (hrest : settledBy p code (judgedMove code rest s r) = next) :
    settledBy p code (judgedMove code (confirmChecks s ++ rest) s r) = confirmOutcome p code serial s next := by
  unfold confirmChecks confirmOutcome
  cases hstab : s.tally.stab with
  | none => simp [refuseMove]
  | some start =>
    have helapsed : stabElapsed s = elapsed s.seconds start := by simp [stabElapsed, hstab]
    simp only [List.cons_append, List.nil_append, settledBy_judgedMove_cons, hrest, refuseMove, hserial, helapsed, settledBy_refuse]
    simp
    rfl

end

/-! ### BREAK JOINT and MAKE JOINT (R29, R31) -/

theorem breakJointTaken_eq {s : State} {serial : Nat} (htop : s.tally.stack.getLast? = some serial) :
    breakJointTaken s = recheck (depthCompute { s with
      tally := { s.tally with
        stack := s.tally.stack.dropLast, handling := some serial, state := .rodHeldRemove, stab := none,
        lastMove := some s.seconds, slips := { s.tally.slips with drive := false },
        pump := { s.tally.pump with drive := false } },
      depth := { s.depth with
        stringTop := s.depth.stringTop.map (· - (rodLength s.rack.rods serial : Int)) } }) := by
  have hserial : topSerial s.tally = serial := by simp [topSerial, htop]
  rw [breakJointTaken, hserial, moveTo_eq (slipsLevel_elsewhere (by simp)) (pumpLevel_elsewhere (by simp) (by simp))]
  rfl

theorem makeJointTaken_eq {s : State} {serial : Nat} (hm : s.modes.mode ≠ .standby)
    (hh : s.tally.handling = some serial) :
    makeJointTaken s = recheck (countJoint (serial :: s.tally.stack.getLast?.toList) (depthCompute { s with
      tally := { s.tally with
        stack := s.tally.stack ++ [serial], handling := none, state := .inSlipsLatched, stab := none,
        lastMove := some s.seconds, slips := { s.tally.slips with drive := true },
        pump := { s.tally.pump with drive := true } },
      depth := { s.depth with
        stringTop := s.depth.stringTop.map (· + (rodLength s.rack.rods serial : Int)) } })) := by
  have hserial : heldSerial s = serial := by simp [heldSerial, hh]
  rw [makeJointTaken, hserial, moveTo_eq (slipsLevel_latched rfl rfl hm) (pumpLevel_latched rfl hm)]
  rfl

/-- Settles O23: the checks of R23 and R36, and then the move as R29 or R31 has it. -/
theorem breakAndMakeJoint : Obligations.BreakAndMakeJoint := by
  refine ⟨fun p s h => moveRequest_eq h (settledBy_moveChecks fun _ _ => ?_),
    fun p serial s h hheld => moveRequest_eq h ?_⟩
  · cases htop : s.tally.stack.getLast? with
    | none =>
      have hempty : s.tally.stack.isEmpty = true := by simpa using htop
      rw [settledBy_judgedMove_cons, if_pos hempty, settledBy_refuseMove_sequence]
    | some serial =>
      have hstack : ¬ s.tally.stack.isEmpty = true := fun he => by simp_all
      rw [settledBy_judgedMove_cons, if_neg hstack, settledBy_judgedMove_nil, settledBy_taken, breakJointTaken_eq htop]
  · rw [List.append_assoc]
    refine settledBy_moveChecks fun hm hstate => ?_
    rw [List.mem_singleton] at hstate
    have hh := hheld hstate
    refine settledBy_confirmChecks (by simp [makeupSerial, hstate, hh]) ?_
    rw [rodMissing, hh, settledBy_judgedMove_cons, if_neg (by simp), settledBy_judgedMove_nil, settledBy_taken,
      makeJointTaken_eq hm hh]

end Sys2Proof.Machine

namespace Sys2Proof.Machine

/-! ### The reset state meets the invariants -/

theorem freshPort_inOrder : PortInOrder freshPort := ⟨Nat.zero_le _, .nil, rfl⟩

/-- Settles O4: a blank part has no rod, no depth, no sample, no job and no notice. -/
theorem resetMeetsInvariants : Obligations.ResetMeetsInvariants := by
  refine ⟨reset_rodsPlaced, ⟨rfl, rfl⟩, ?bit, ?alarms, ?samples, ?log, ?seconds, ?notices, ?pending⟩
  case bit => simp [BitWithinHole, State.reset, blankDepth, blankJob]
  case alarms => simp [AlarmsApart, State.reset, blankCirc]
  case samples => simp [SamplesAccounted, State.reset, blankLag, blankLog]
  case log => simp [LogCoversHole, State.reset, blankJob, blankLog, Config.maxIntervals]
  case seconds => simp [SecondsAccounted, State.reset, blankJob, blankMeter, zeroTotals]
  case notices => exact ⟨freshPort_inOrder, freshPort_inOrder, freshPort_inOrder⟩
  case pending => simp [PendingWaits, State.reset, blankModes]

end Sys2Proof.Machine

namespace Sys2Proof.Machine

/-! ### Reads and the bytes of their replies (R182) -/

/-- A read on a running part: its first failing check, or its payload. -/
theorem readRequest_eq {p : Port} {code : Nat} {checks : State → List (Bool × ReplyCode)} {payload : State → List Byte}
    {s : State} {refused : Option ReplyCode} {bytes : List Byte} (h : s.power = .running) (hc : 128 ≤ code)
    (hrefused : firstFailing (checks s) = refused) (hbytes : payload s = bytes) :
    readRequest p code checks payload s = readOutcome p code refused bytes s := by
  subst hrefused hbytes
  cases hf : firstFailing (checks s) with
  | none => exact readRequest_answers p code checks payload s h hc hf
  | some c => exact readRequest_refused p code checks payload s c h hc hf

/-- A read refused by its first failing check replies no payload, whatever its fields. -/
theorem readRequest_eq_refused {p : Port} {code : Nat} {checks : State → List (Bool × ReplyCode)}
    {payload : State → List Byte} {s : State} {c : ReplyCode} (bytes : List Byte) (h : s.power = .running)
    (hc : 128 ≤ code) (hrefused : firstFailing (checks s) = some c) :
    readRequest p code checks payload s = readOutcome p code (some c) bytes s :=
  readRequest_refused p code checks payload s c h hc hrefused

@[simp] theorem optional_eq_maybe (width : Nat) (bytes : Nat → List Byte) (v : Option Nat) :
    optional width bytes v = maybe bytes width v := by
  cases v <;> rfl

theorem optional_int4 (v : Option Int) :
    optional 4 int4 v = match v with
      | none => [0, 0, 0, 0, 0]
      | some v => [1] ++ int4 v := by
  cases v <;> rfl

theorem locationBytes (s : State) (serial : Nat) : (locationOf s serial).bytes = placeBytes s serial := by
  unfold locationOf placeBytes
  cases s.rack.slots.findIdx? (fun x => x.occupant == some serial) with
  | some n => rfl
  | none =>
    cases s.tally.stack.findIdx? (fun x => x == serial) with
    | some k => rfl
    | none => exact apply_ite Location.bytes _ _ _

theorem flag_eq (b : Bool) : flag b = if b = true then [1] else [0] := by cases b <;> rfl

/-- R58: on bottom, with the depths compared by a sum. -/
theorem onBottom_iff (s : State) :
    onBottom s = true ↔ s.job.isOpen = true ∧ ∃ z ∈ s.depth.bit, ∃ hole ∈ s.depth.hole, hole ≤ z + 300 := by
  unfold onBottom
  split
  next z hole hz hhole => simp [hz, hhole]
  next hne =>
    cases hz : s.depth.bit with
    | none => simp
    | some z =>
      cases hhole : s.depth.hole with
      | none => simp
      | some hole => exact absurd hhole (hne z hole hz)

theorem following_byte (t : Tally) : flag (!following t) = if t.state = .onBlock then [0] else [1] := by
  unfold following
  cases t.state <;> rfl

/-- R61: the fields of READ DEPTH. -/
theorem depthBytes_eq (s : State) : depthBytes s =
    maybe num2 2 s.depth.block ++ num1 s.depth.rotation.toNat ++
      (match s.depth.stringTop with
       | none => [0, 0, 0, 0, 0]
       | some v => [1] ++ int4 v) ++
      (if s.tally.state = .onBlock then [0] else [1]) ++
      maybe num4 4 s.depth.bit ++ num1 s.depth.aboveTable.toNat ++ maybe num4 4 s.depth.hole ++ num1 s.job.isOpen.toNat ++
      (if s.job.isOpen = true ∧ ∃ z ∈ s.depth.bit, ∃ hole ∈ s.depth.hole, hole ≤ z + 300 then [1] else [0]) ++
      num1 s.depth.down.toNat ++ num1 s.depth.activity.code ++ num1 s.depth.disagree.toNat ++ num1 s.depth.limit.toNat := by
  rw [depthBytes, following_byte, flag_eq (onBottom s), ite_congr (propext (onBottom_iff s)) (fun _ => rfl) fun _ => rfl, optional_int4]
  simp only [optional_eq_maybe, flag]

theorem circulationBytes_eq (c : Circ) : circulationBytes c =
    num1 c.status.code ++ num8 c.pumped ++ maybe num4 4 c.reportSecond ++ maybe num4 4 c.lastE ++
      maybe num4 4 c.lastVolume ++ num4 c.flowIn ++
      (match c.flowOutUsed with
       | none => [0, 0, 0, 0, 0]
       | some v => [1] ++ int4 v) ++
      (match c.lastD with
       | none => [0, 0, 0, 0, 0]
       | some v => [1] ++ int4 v) ++
      num1 c.lossStreak ++ num1 c.gainStreak ++ num1 c.balancedStreak ++ num1 c.loss.toNat ++ num1 c.gain.toNat ++
      num1 c.p1.state.code ++ num1 c.p2.state.code ++ num1 c.flowOut.state.code ++ num1 c.pit.state.code := by
  simp only [circulationBytes, optional_int4, optional_eq_maybe, flag]

theorem strokeVolume_eq (x : Pump) : x.strokeVolume = x.displacement * x.efficiency / 1000 := by
  by_cases h : x.displacement = 0 <;> simp [Pump.strokeVolume, Pump.present, h]

theorem lagStrokes_eq (x : Pump) (v : Nat) : lagStrokes x v = strokesOf x v := by
  unfold lagStrokes strokesOf ceilDiv
  by_cases h : x.displacement = 0 <;> simp [Pump.present, h, strokeVolume_eq]

theorem sectionKindByte_eq (program : List Section) (z : Nat) :
    num1 (sectionKindByte program z) = [sectionByte program z] := by
  unfold sectionKindByte sectionKindAt sectionByte
  cases program.find? fun x => z < x.base with
  | none => rfl
  | some x => cases hk : x.kind <;> simp [hk] <;> rfl

/-- R86, R102: each section after the base of the one above it. -/
theorem programBytes_eq (top : Nat) (program : List Section) :
    programBytes top program = (program.zip (top :: program.map Section.base)).flatMap fun x =>
      num4 x.2 ++ num4 x.1.base ++ num2 x.1.bore ++ (if x.1.kind = .cased then [0] else [1]) := by
  induction program generalizing top with
  | nil => rfl
  | cons x xs ih =>
    have hkind : num1 x.kind.code = if x.kind = .cased then [0] else [1] := by cases x.kind <;> rfl
    simp [programBytes, ih, hkind]

theorem channelAt_eq {c : Circ} {n : Nat} {x : Channel} (hn : n ≠ 0)
    (hx : [c.p1, c.p2, c.flowOut, c.pit][n - 1]? = some x) : n ≤ 4 ∧ channelAt c n = x := by
  match n, hn, hx with
  | 1, _, hx => simpa [channelAt] using hx
  | 2, _, hx => simpa [channelAt] using hx
  | 3, _, hx => simpa [channelAt] using hx
  | 4, _, hx => simpa [channelAt] using hx
  | n + 5, _, hx => simp at hx

theorem lagEntryBytes_eq : lagEntryBytes = fun e =>
    num2 e.number ++ num4 e.origin ++ num4 e.issued ++ maybe num8 8 e.target ++ num1 e.quality.code ++
      num1 e.strokesHeld.toNat := by
  funext e
  rw [lagEntryBytes, optional_eq_maybe, flag]

/-- R102: the fields of READ ANNULUS while V_a can be formed. -/
theorem annulusBytes_formed {s : State} {z : Nat} (hz : s.depth.bit = some z) (hprogram : s.lag.program ≠ []) :
    annulusBytes s =
      [1] ++ num4 z ++ [1] ++ num4 (annularVolume s z) ++ num4 (piecesOf s z).length ++ [sectionByte s.lag.program z] ++
        maybe num4 4 (strokesOf s.circ.pump1 (annularVolume s z)) ++
        maybe num4 4 (strokesOf s.circ.pump2 (annularVolume s z)) := by
  obtain ⟨x, xs, hxs⟩ := List.exists_cons_of_ne_nil hprogram
  simp only [annulusBytes, hz, hxs, sectionKindByte_eq, lagStrokes_eq, optional_eq_maybe]
  simp [maybe]

/-- R102: the fields of READ ANNULUS while bit depth is STALE or the program is absent. -/
theorem annulusBytes_absent {s : State} (h : s.depth.bit = none ∨ s.lag.program = []) :
    annulusBytes s = maybe num4 4 s.depth.bit ++ [0, 0, 0, 0, 0] ++ num4 Config.annulusPiecesWhenAbsent.toNat ++
      num1 Config.annulusKindWhenAbsent.toNat ++ [0, 0, 0, 0, 0] ++ [0, 0, 0, 0, 0] := by
  unfold annulusBytes
  split
  next z x xs hz hprogram => simp [hz, hprogram] at h
  next => simp only [optional_eq_maybe]; rfl

/-- R20: S, with the record of each rod of the stack looked up. -/
theorem stringLength_eq (s : State) : stringLength s = lengthOfString s := by
  have hlength : rodLength s.rack.rods = fun serial =>
      match s.rack.rods.find? fun r => r.serial == serial with
      | some r => r.length
      | none => 0 := by
    funext serial
    rw [rodLength, findRod]
    cases s.rack.rods.find? fun r => r.serial == serial <;> rfl
  exact congrArg (fun f => bhaLength s.tally + (s.tally.stack.map f).sum) hlength

/-! ### The reads of chapters 1 and 2, 4 and 5 that name a record -/

/-- R16: READ ROD, by whether the register holds the serial. -/
theorem execReadRod_eq (p : Port) (n : Nat) (s : State) (h : s.power = .running) :
    execReadRod p n s =
      match s.rack.rods.find? fun r => r.serial == n with
      | none => readOutcome p 128 (if n = 0 then some .outOfRange else some .noSuch) [] s
      | some r => readOutcome p 128 (if n = 0 then some .outOfRange else none)
          (num2 r.serial ++ num2 r.length ++ num1 r.od ++ num4 r.rotatingSeconds ++ num2 r.jointsMade ++
            num1 r.status.code ++ placeBytes s r.serial) s := by
  split
  next hr => exact readRequest_eq h (by decide) (by simp [findRod, hr]) (by simp [findRod, hr])
  next r hr =>
    refine readRequest_eq h (by decide) (by simp [findRod, hr]) ?_
    simp [findRod, hr, rodBytes, locationBytes]

/-- R43: READ TALLY, with the sense lines sampled. -/
theorem execReadTally_eq (p : Port) (pins : SensePins) (s : State) (h : s.power = .running) :
    execReadTally p pins s = readOutcome p 136 none (tallyBytes (sensePermits pins s)) (sensePermits pins s) := by
  simp [execReadTally, writeTransaction_running, h, respond, requestWake_read, answered, readOutcome]

/-- R43: the fields of READ TALLY. -/
theorem tallyBytes_eq (s : State) : tallyBytes s =
    num1 s.tally.state.code ++ maybe num4 4 s.tally.stab ++ num2 (s.tally.handling.getD 0) ++
      num2 s.tally.stack.length ++ num4 (lengthOfString s) ++ lineBytes s.tally.slips ++ lineBytes s.tally.pump ++
      num2 s.tally.earlyConfirms ++ maybe num4 4 s.tally.lastMove := by
  rw [tallyBytes, stringLength_eq, optional_eq_maybe, optional_eq_maybe]

/-- R84: READ CHANNEL of a record named by the four channels in order. -/
theorem execReadChannel_eq {p : Port} {n : Nat} {s : State} {x : Channel} (h : s.power = .running)
    (hx : [s.circ.p1, s.circ.p2, s.circ.flowOut, s.circ.pit][n - 1]? = some x) :
    execReadChannel p n s = readOutcome p 153 (if n = 0 then some .outOfRange else none)
      (num2 x.counter ++ num1 x.state.code ++ num1 x.recovery ++
        (if n = 4 then maybe num2 2 x.last ++ maybe num2 2 x.reference
         else if n = 3 then num2 (x.last.getD 0) else num4 (x.last.getD 0))) s := by
  by_cases hn : n = 0
  · rw [if_pos hn]
    exact readRequest_eq_refused _ h (by decide) (by simp [hn, inRange])
  · obtain ⟨hle, rfl⟩ := channelAt_eq hn hx
    have hrange : 1 ≤ n ∧ n ≤ 4 := by omega
    refine readRequest_eq h (by decide) (by simp [hn, inRange, hrange]) ?_
    simp only [channelValueBytes, optional_eq_maybe]

/-- Settles O59: each read's own check and its fields, the bytes of a field by the lemmas above. -/
theorem rackTallyAndDepthReads : Obligations.RackTallyAndDepthReads := by
  refine ⟨fun p n s h => ⟨execReadRod_eq p n s h, ?rodList, ?slot, ?laidOut, ?wearLimits, fun pins => ?tally, ?stack, ?bha, ?makeup⟩,
    fun p s h => ?depth, fun p s h => ?circulation,
    fun p n s h => ⟨fun x hx => execReadChannel_eq h hx, fun hn => ?noChannel, ?pumps, ?lagQueue⟩,
    fun p s h => ?casing, fun p s h => ⟨fun z hz hprogram => ?annulus, fun hz => ?noAnnulus⟩⟩
  case rodList => exact readRequest_eq h (by decide) (by simp) rfl
  case slot => exact readRequest_eq h (by decide) (by simp) (by simp only [optional_eq_maybe, flag])
  case laidOut => exact readRequest_eq h (by decide) (by simp) rfl
  case wearLimits => exact readRequest_eq h (by decide) rfl rfl
  case tally =>
    refine (execReadTally_eq p pins s h).trans ?_
    rw [tallyBytes_eq]
    rfl
  case stack => exact readRequest_eq h (by decide) (by simp) rfl
  case bha => exact readRequest_eq h (by decide) rfl rfl
  case makeup => exact readRequest_eq h (by decide) rfl rfl
  case depth => exact readRequest_eq h (by decide) rfl (depthBytes_eq s)
  case circulation => exact readRequest_eq h (by decide) rfl (circulationBytes_eq s.circ)
  case noChannel => exact readRequest_eq_refused [] h (by decide) (by simp [inRange, hn])
  case pumps => exact readRequest_eq h (by decide) rfl (by simp [pumpBytes, strokeVolume_eq])
  case lagQueue =>
    refine readRequest_eq h (by decide) (by simp) ?_
    simp only [lagEntryBytes_eq, counted, page, List.append_assoc]
  case casing =>
    refine readRequest_eq h (by decide) rfl ?_
    rw [programBytes_eq]
    rfl
  case annulus => exact readRequest_eq h (by decide) rfl (annulusBytes_formed hz hprogram)
  case noAnnulus => exact readRequest_eq h (by decide) rfl (annulusBytes_absent hz)

end Sys2Proof.Machine

namespace Sys2Proof.Machine

/-! ### A part that is held or dark (R180, R197) -/

/-- R180, R197: a write transaction on a part that does not run shifts out zeros while RESET holds the part, and has no effect in
the dark. -/
theorem writeTransaction_stopped (p : Port) (f : State → State) {s : State} (h : s.power ≠ .running) :
    writeTransaction p f s = .next (
      if s.power = .resetHeld then { s with ports := s.ports.set p { s.ports.get p with dataOut := [] } } else s) := by
  by_cases hheld : s.power = .resetHeld
  · rw [if_pos hheld, writeTransaction_held p f s hheld]
    rfl
  · rw [if_neg hheld]
    refine writeTransaction_dark p f s ?_
    cases hp : s.power <;> simp_all

/-- R197, log entries 23 and 25: what a command other than those of the supply, of the RESET input and of a read transaction comes
to on a part that does not run. -/
theorem exec_stopped (c : Instr) {s : State} (h : s.power ≠ .running) (hon : ∀ v, c ≠ .powerOn v)
    (hreleased : ∀ v, c ≠ .resetReleased v) (hloss : c ≠ .powerLoss) (hasserted : c ≠ .resetAsserted)
    (hread : ∀ p n, c ≠ .readTransaction p n) :
    exec c s = .next (
      match c.port with
      | none => s
      | some p =>
        if s.power = .resetHeld then { s with ports := s.ports.set p { s.ports.get p with dataOut := [] } } else s) := by
  cases c with
  | powerOn v => exact absurd rfl (hon v)
  | resetReleased v => exact absurd rfl (hreleased v)
  | powerLoss => exact absurd rfl hloss
  | resetAsserted => exact absurd rfl hasserted
  | readTransaction p n => exact absurd rfl (hread p n)
  | deviceSecond | makeupExpired | circStale | permitFault | pendingModeTaken | sampleArrival =>
    exact whileRunning_stopped _ s h
  | releaseSlips | readTally | badFrame | unknownRequest =>
    unfold exec
    exact writeTransaction_stopped _ _ h
  | _ => exact writeTransaction_stopped _ _ h

end Sys2Proof.Machine

namespace Sys2Proof.Machine

/-! ### What `PermitsFollow` looks at -/

/-- The fields of a state that `PermitsFollow` looks at. -/
structure PermitView where
  power : Power
  mode : Mode
  wake : Bool
  state : TallyState
  stab : Option Nat
  slips : Bool
  pump : Bool

def permitView (s : State) : PermitView :=
  ⟨s.power, s.modes.mode, s.modes.circulation.wake, s.tally.state, s.tally.stab, s.tally.slips.drive, s.tally.pump.drive⟩

/-- R38, R39: the part runs, with its permits driven at their levels. -/
structure PermitsDriven (s : State) : Prop where
  running : s.power = .running
  follow : PermitsFollow s

section
variable {s t : State}

theorem permitsFollow_congr (h : permitView t = permitView s) (hs : PermitsFollow s) : PermitsFollow t := by
  simp only [permitView, PermitView.mk.injEq] at h
  obtain ⟨hpower, hmode, hwake, hstate, hstab, hslips, hpump⟩ := h
  simpa only [PermitsFollow, slipsLevel, pumpLevel, hpower, hmode, hwake, hstate, hstab, hslips, hpump] using hs

theorem permitsDriven_congr (h : permitView t = permitView s) (hs : PermitsDriven s) : PermitsDriven t :=
  ⟨(congrArg PermitView.power h).trans hs.running, permitsFollow_congr h hs.follow⟩

/-- R38, R39: a running part that drives its permits has them at their levels. -/
theorem drivePermits_driven (h : s.power = .running) : PermitsDriven (drivePermits s) where
  running := h
  follow := by simp [PermitsFollow, slipsLevel, pumpLevel, h]

theorem raise_driven (k : NoticeKind) (a b : Nat) (hs : PermitsDriven s) : PermitsDriven (raise k a b s) :=
  permitsDriven_congr (by rfl) hs

/-! ### Changes of mode, wake events and replies drive the permits or leave them -/

theorem setMode_driven (m : Mode) (hs : PermitsDriven s) : PermitsDriven (setMode m s) := by
  unfold setMode
  simp only
  split
  · exact hs
  · refine permitsDriven_congr ?_ (drivePermits_driven (s := s.setModes { s.modes with mode := m }) hs.running)
    split <;> simp [permitView]

theorem dropPending_driven (hs : PermitsDriven s) : PermitsDriven (dropPending s) := permitsDriven_congr (by rfl) hs

theorem takeMode_driven (m : Mode) (hs : PermitsDriven s) : PermitsDriven (takeMode m s) :=
  setMode_driven m (dropPending_driven hs)

theorem recheck_driven (hs : PermitsDriven s) : PermitsDriven (recheck s) := by
  unfold recheck
  split
  · split
    · exact setMode_driven _ (dropPending_driven hs)
    · exact hs
  · exact hs

theorem wakeEvent_driven (w : WakeSource) (hs : PermitsDriven s) : PermitsDriven (wakeEvent w s) := by
  unfold wakeEvent
  simp only
  split
  · have hnoted : PermitsDriven (raiseIf (s.modes.flags w).notice .standbyEvent w.number (s.modes.flags w).wake.toNat s) :=
      permitsDriven_congr (by simp [permitView]) hs
    split
    · exact recheck_driven (setMode_driven _ hnoted)
    · exact hnoted
  · exact hs

theorem wakeEvents_driven (ws : List WakeSource) (hs : PermitsDriven s) : PermitsDriven (wakeEvents ws s) := by
  induction ws generalizing s with
  | nil => exact hs
  | cons w ws ih => exact ih (wakeEvent_driven w hs)

theorem keptByAnswer_driven : KeptByAnswer PermitsDriven where
  reply _ _ _ _ _ := permitsDriven_congr (by rfl)
  wakes ws _ := wakeEvents_driven ws
  zeros _ _ := permitsDriven_congr (by rfl)

/-! ### The moves drive the permits (R24) -/

theorem moveTo_driven (x : Tally) (h : s.power = .running) : PermitsDriven (moveTo x s) := drivePermits_driven h

theorem permitView_depthCompute (s : State) : permitView (depthCompute s) = permitView s := by simp [permitView]

theorem depthCompute_driven (hs : PermitsDriven s) : PermitsDriven (depthCompute s) :=
  permitsDriven_congr (permitView_depthCompute s) hs

theorem countJoint_driven (serials : List Nat) (hs : PermitsDriven s) : PermitsDriven (countJoint serials s) :=
  permitsDriven_congr (by simp [permitView]) hs

theorem noteWornPick_driven (serial : Nat) (hs : PermitsDriven s) : PermitsDriven (noteWornPick serial s) :=
  permitsDriven_congr (by simp [permitView]) hs

theorem permitView_refuseMove (code : Nat) (c : ReplyCode) (s : State) :
    permitView (refuseMove code c s).state = permitView s := by
  unfold refuseMove
  split <;> simp [permitView]

/-- A move whose effect leaves the permits driven: its refusals drive nothing. -/
theorem moveRequest_driven {p : Port} {code : Nat} {checks : State → List (Bool × ReplyCode)} {effect : State → State}
    (h : moveRequest p code checks effect s = .next t) (hs : PermitsDriven s) (he : PermitsDriven (effect s)) :
    PermitsDriven t :=
  moveRequest_keeps keptByAnswer_driven h hs (fun c => permitsDriven_congr (permitView_refuseMove code c s) hs) fun _ => he

theorem setSlipsTaken_driven (h : s.power = .running) : PermitsDriven (setSlipsTaken s) :=
  recheck_driven (depthCompute_driven (moveTo_driven _ h))

theorem releaseSlipsTaken_driven (h : s.power = .running) : PermitsDriven (releaseSlipsTaken s) :=
  recheck_driven (depthCompute_driven (permitsDriven_congr (by rfl) (moveTo_driven _ h)))

theorem breakJointTaken_driven (h : s.power = .running) : PermitsDriven (breakJointTaken s) :=
  recheck_driven (depthCompute_driven (permitsDriven_congr (by rfl) (moveTo_driven _ h)))

theorem pickRodTaken_driven (slot : Nat) (h : s.power = .running) : PermitsDriven (pickRodTaken slot s) :=
  recheck_driven (noteWornPick_driven _ (moveTo_driven _ h))

theorem makeJointTaken_driven (h : s.power = .running) : PermitsDriven (makeJointTaken s) :=
  recheck_driven (countJoint_driven _ (depthCompute_driven (permitsDriven_congr (by rfl) (moveTo_driven _ h))))

theorem rackHeldRod_driven (slot : Nat) (h : s.power = .running) : PermitsDriven (rackHeldRod slot s) :=
  recheck_driven (moveTo_driven _ h)

theorem layOutHeldRod_driven (h : s.power = .running) : PermitsDriven (layOutHeldRod s) :=
  recheck_driven (moveTo_driven _ h)

theorem resolveToString_driven (h : s.power = .running) : PermitsDriven (resolveToString s) :=
  recheck_driven (depthCompute_driven (permitsDriven_congr (by rfl) (moveTo_driven _ h)))

theorem resolveTaken_driven (destination slot : Nat) (h : s.power = .running) :
    PermitsDriven (resolveTaken destination slot s) := by
  match destination with
  | 0 => exact resolveToString_driven h
  | 1 => exact rackHeldRod_driven slot h
  | _ + 2 => exact layOutHeldRod_driven h

/-! ### The work of a device second, and of the events it makes -/

theorem sensePermits_driven (pins : SensePins) (hs : PermitsDriven s) : PermitsDriven (sensePermits pins s) :=
  permitsDriven_congr (by rfl) hs

theorem expireStab_driven (hs : PermitsDriven s) : PermitsDriven (expireStab s) := by
  unfold expireStab
  split
  · exact recheck_driven (raise_driven _ _ _ (drivePermits_driven hs.running))
  · exact hs

theorem makeStale_driven (hs : PermitsDriven s) : PermitsDriven (makeStale s) := by
  unfold makeStale
  split
  · exact recheck_driven (permitsDriven_congr (by rfl) hs)
  · exact hs

/-- R40: a comparison changes the counts of a line, and not its drive. -/
@[simp] theorem compareLine_drive (x : PermitLine) : (compareLine x).drive = x.drive := by
  unfold compareLine
  split
  · rfl
  · split <;> rfl

theorem permitReadback_driven (pins : SensePins) (hs : PermitsDriven s) : PermitsDriven (permitReadback pins s) := by
  unfold permitReadback
  simp only
  split
  · exact recheck_driven (permitsDriven_congr (by simp [permitView]) (sensePermits_driven pins hs))
  · exact permitsDriven_congr (by simp [permitView]) (sensePermits_driven pins hs)

theorem secondComparison_driven (q : Permit) (sense : Bool) (hs : PermitsDriven s) :
    PermitsDriven (secondComparison q sense s) := by
  unfold secondComparison
  simp only
  split
  · exact recheck_driven (permitsDriven_congr (by cases q <;> rfl) hs)
  · exact hs

theorem secondPasses_driven (pins : SensePins) (hs : PermitsDriven s) : PermitsDriven (secondPasses pins s) := by
  have hcounted : PermitsDriven (wearSecond (advanceSeconds (overdueExpiries s))) :=
    permitsDriven_congr (by simp [permitView, advanceSeconds, overdueExpiries]) (makeStale_driven (expireStab_driven hs))
  exact permitsDriven_congr (by simp [permitView, secondPasses]) (permitReadback_driven pins hcounted)

/-! ### A circulation report (R73): the change of status re-checks a pending mode request -/

theorem setStatus_driven (x : CircStatus) (hs : PermitsDriven s) : PermitsDriven (setStatus x s) := by
  unfold setStatus
  split
  · exact hs
  · exact recheck_driven (permitsDriven_congr (by rfl) hs)

theorem reportTaken_driven (p1 p2 flowOut pit : Nat) (hs : PermitsDriven s) :
    PermitsDriven (reportTaken p1 p2 flowOut pit s).state := by
  unfold reportTaken
  refine permitsDriven_congr (by simp only [permitView, taken_state, lagHandOff_frame, tellStrata_frame, balance_frame]; rfl)
    (setStatus_driven _ (permitsDriven_congr ?_ hs))
  · simp [permitView]

end

end Sys2Proof.Machine

namespace Sys2Proof.Machine

/-! ### Every command keeps the permits as they should be (R38, R39, R197) -/

section
variable {s t : State} {p : Port} {code : Nat}

/-- A checked request on a part whose permits are driven: its effect keeps them driven. -/
theorem request_driven {checks : State → List (Bool × ReplyCode)} {r : State → Response}
    (h : request p code (fun s => checked (checks s) s (r s)) s = .next t) (hs : PermitsDriven s)
    (hr : PermitsDriven (r s).state) : PermitsDriven t :=
  request_checked_keeps keptByAnswer_driven h hs fun _ => hr

/-- A checked request whose effect touches no permit, nor what the levels are read from. -/
theorem request_permitView {checks : State → List (Bool × ReplyCode)} {r : State → Response}
    (h : request p code (fun s => checked (checks s) s (r s)) s = .next t) (hs : PermitsDriven s)
    (hr : permitView (r s).state = permitView s) : PermitsDriven t :=
  request_driven h hs (permitsDriven_congr hr hs)

theorem readRequest_driven {checks : State → List (Bool × ReplyCode)} {payload : State → List Byte}
    (h : readRequest p code checks payload s = .next t) (hs : PermitsDriven s) : PermitsDriven t :=
  readRequest_keeps keptByAnswer_driven h hs

theorem execReleaseSlips_driven {pins : SensePins} (hs : PermitsDriven s) (h : execReleaseSlips p pins s = .next t) :
    PermitsDriven t := by
  have hsensed := sensePermits_driven pins hs
  refine writeTransaction_keeps keptByAnswer_driven h hs (respond_keeps keptByAnswer_driven ?_)
  exact judgedMove_keeps (fun c => permitsDriven_congr (permitView_refuseMove _ c _) hsensed)
    fun _ => releaseSlipsTaken_driven hsensed.running

theorem execReadTally_driven {pins : SensePins} (hs : PermitsDriven s) (h : execReadTally p pins s = .next t) :
    PermitsDriven t :=
  writeTransaction_keeps keptByAnswer_driven h hs (respond_keeps keptByAnswer_driven (sensePermits_driven pins hs))

theorem execBadFrame_driven (hs : PermitsDriven s) (h : execBadFrame p code s = .next t) : PermitsDriven t :=
  writeTransaction_keeps keptByAnswer_driven h hs (permitsDriven_congr (by rfl) hs)

theorem execUnknownRequest_driven (hs : PermitsDriven s) (h : execUnknownRequest p code s = .next t) : PermitsDriven t :=
  writeTransaction_keeps keptByAnswer_driven h hs (permitsDriven_congr (by rfl) hs)

theorem execReadTransaction_permitView {clocked : Nat} (h : execReadTransaction p clocked s = .next t) :
    permitView t = permitView s := by
  unfold execReadTransaction at h
  split at h <;> cases h <;> rfl

theorem goPending_driven (target : Mode) (failing : Nat) (hs : PermitsDriven s) :
    PermitsDriven (goPending target p failing s).state := permitsDriven_congr (by rfl) hs

theorem execEnterSetup_driven (hs : PermitsDriven s) (h : execEnterSetup p s = .next t) : PermitsDriven t := by
  refine request_driven h hs ?_
  split
  · exact takeMode_driven _ hs
  · exact goPending_driven _ _ hs

theorem execEnterRun_driven (hs : PermitsDriven s) (h : execEnterRun p s = .next t) : PermitsDriven t := by
  refine request_driven h hs ?_
  split
  · exact hs
  · exact takeMode_driven _ hs

theorem execEnterStandby_driven (hs : PermitsDriven s) (h : execEnterStandby p s = .next t) : PermitsDriven t := by
  refine request_keeps keptByAnswer_driven h hs ?_
  split
  · exact hs
  · split
    · exact takeMode_driven _ hs
    · exact goPending_driven _ _ hs

/-! #### Power and the RESET input (R196, R197) -/

/-- R197: the power-on sequence ends with the permits driven. -/
theorem powerUp_permitsFollow (valid : Bool) (s : State) : PermitsFollow (powerUp valid s) := by
  simp [PermitsFollow, powerUp, slipsLevel, pumpLevel]

/-- R196, R197: the volatile state lost leaves both permits withdrawn, on a part that does not run. -/
theorem volatileReset_permitsFollow {x : Power} (hx : x ≠ .running) (s : State) :
    PermitsFollow ((volatileReset s).setPower x) := by
  simp [PermitsFollow, volatileReset, tallyVolatile, blankTally, withdrawnLine, hx]

theorem darkened_ne_running (x : Power) : darkened x ≠ .running := by cases x <;> decide

theorem withdrawPermits_permitsFollow (s : State) : PermitsFollow ((withdrawPermits s).setPower .resetHeld) := by
  simp [PermitsFollow, withdrawPermits]

/-- A part that does not run keeps its permits withdrawn when it goes from one such condition to another. -/
theorem setPower_permitsFollow {x : Power} (hx : x ≠ .running) (hstopped : s.power ≠ .running) (hs : PermitsFollow s) :
    PermitsFollow (s.setPower x) := by
  simpa [PermitsFollow, beq_false_of_ne hx, beq_false_of_ne hstopped] using hs

theorem execPowerOn_permitsFollow {valid : Bool} (h : execPowerOn valid s = .next t) : PermitsFollow t := by
  unfold execPowerOn at h
  split at h <;> cases h
  · exact powerUp_permitsFollow valid s
  · exact powerUp_permitsFollow valid s
  · exact volatileReset_permitsFollow (by decide) s
  · exact volatileReset_permitsFollow (by decide) s

theorem execResetAsserted_permitsFollow (hs : PermitsFollow s) (h : execResetAsserted s = .next t) : PermitsFollow t := by
  unfold execResetAsserted at h
  split at h <;> cases h
  · exact withdrawPermits_permitsFollow s
  · exact setPower_permitsFollow (by decide) (by simp [*]) hs
  · exact hs
  · exact hs

theorem execResetReleased_permitsFollow {valid : Bool} (hs : PermitsFollow s) (h : execResetReleased valid s = .next t) :
    PermitsFollow t := by
  unfold execResetReleased at h
  split at h <;> cases h
  · exact powerUp_permitsFollow valid s
  · exact setPower_permitsFollow (by decide) (by simp [*]) hs
  · exact hs
  · exact hs

/-! #### The commands that act on a running part only -/

/-- The commands of the supply and of the RESET input, and read transactions: those that `exec_stopped` leaves out. -/
def actsStopped : Instr → Bool
  | .powerOn _ | .resetReleased _ | .powerLoss | .resetAsserted | .readTransaction _ _ => true
  | _ => false

/-- On a part that does not run, the other commands touch no permit. -/
theorem exec_stopped_permitView (c : Instr) (hc : actsStopped c = false) (hstopped : s.power ≠ .running)
    (h : exec c s = .next t) : permitView t = permitView s := by
  rw [exec_stopped c hstopped (by rintro v rfl; cases hc) (by rintro v rfl; cases hc) (by rintro rfl; cases hc)
    (by rintro rfl; cases hc) (by rintro p n rfl; cases hc)] at h
  cases h
  split
  · rfl
  · split <;> rfl

/-- On a running part, each of the other commands leaves the permits driven. -/
theorem exec_driven (c : Instr) (hc : actsStopped c = false) (hs : PermitsDriven s) (h : exec c s = .next t) :
    PermitsDriven t := by
  have hrun := hs.running
  cases c with
  | powerOn | resetAsserted | resetReleased | powerLoss | readTransaction => cases hc
  | setSlips => exact moveRequest_driven h hs (setSlipsTaken_driven hrun)
  | releaseSlips => exact execReleaseSlips_driven hs h
  | unlatch | latch | stab => exact moveRequest_driven h hs (recheck_driven (moveTo_driven _ hrun))
  | breakJoint => exact moveRequest_driven h hs (breakJointTaken_driven hrun)
  | pickRod => exact moveRequest_driven h hs (pickRodTaken_driven _ hrun)
  | makeJoint => exact moveRequest_driven h hs (makeJointTaken_driven hrun)
  | rackRod => exact moveRequest_driven h hs (rackHeldRod_driven _ hrun)
  | layOutRod => exact moveRequest_driven h hs (layOutHeldRod_driven hrun)
  | resolveRod => exact moveRequest_driven h hs (resolveTaken_driven _ _ hrun)
  | circulation => exact request_driven h hs (reportTaken_driven _ _ _ _ hs)
  | enterSetup => exact execEnterSetup_driven hs h
  | enterRun => exact execEnterRun_driven hs h
  | enterWatch => exact request_driven h hs (takeMode_driven _ hs)
  | enterStandby => exact execEnterStandby_driven hs h
  | setWakeTable => exact request_driven h hs (drivePermits_driven hrun)
  | deviceSecond => exact whileRunning_keeps h hs (secondPasses_driven _ hs)
  | makeupExpired => exact whileRunning_keeps h hs (expireStab_driven hs)
  | circStale => exact whileRunning_keeps h hs (makeStale_driven hs)
  | permitFault => exact whileRunning_keeps h hs (secondComparison_driven _ _ hs)
  | pendingModeTaken => exact whileRunning_keeps h hs (recheck_driven hs)
  | sampleArrival => exact whileRunning_keeps h hs (permitsDriven_congr (by simp [permitView]) hs)
  | readRod | readRodList | readSlot | readLaidOutList | readWearLimits | readStack | readBha | readMakeupLimits
  | readDepth | readCirculation | readChannel | readPumps | readCasingProgram | readAnnulus | readLagQueue | readLog
  | readInterval | readIntervalAtDepth | readSamples | readTicket | readRateCard | readJobTotals | readNoticeStatus
  | readNoticeLevels | readMode | readPortStatus | readJob => exact readRequest_driven h hs
  | readTally => exact execReadTally_driven hs h
  | portReset | readNotice | readSummary =>
    exact request_keeps keptByAnswer_driven h hs (permitsDriven_congr (by simp [permitView]) hs)
  | badFrame => exact execBadFrame_driven hs h
  | unknownRequest => exact execUnknownRequest_driven hs h
  | rackSense =>
    refine request_permitView h hs ?_
    exact foldl_keeps permitView (fun s n => raise .rackDiscrepancy n 0 s) (fun _ _ => rfl) _ _
  | registerRod | deleteRod | restoreRod | setWearLimits | setSlotSensing | setBha | setMakeupLimits | block | downStart
  | downEnd | setPump | setCirculationLimits | additive | setCasingProgram | sampleCaught | setDrillBreak | reArm
  | classify | confirm | merge | split | waterStrike | clearWaterStrike | setBandRates | setTierMultipliers
  | setHourlyRates | setAdditivePrices | closeTicket | acknowledgeTicket | setNoticeLevels | setNoticeFilter
  | cancelMode | openJob | closeJob =>
    exact request_permitView h hs (by simp [permitView, registerRodTaken, restoreRodTaken, dropPending])

theorem exec_permitsFollow (c : Instr) (hs : PermitsFollow s) (h : exec c s = .next t) : PermitsFollow t := by
  cases c with
  | powerOn => exact execPowerOn_permitsFollow h
  | resetAsserted => exact execResetAsserted_permitsFollow hs h
  | resetReleased => exact execResetReleased_permitsFollow hs h
  | powerLoss => cases h; exact volatileReset_permitsFollow (darkened_ne_running _) s
  | readTransaction => exact permitsFollow_congr (execReadTransaction_permitView h) hs
  | _ =>
    by_cases hrun : s.power = .running
    · exact (exec_driven _ rfl ⟨hrun, hs⟩ h).follow
    · exact permitsFollow_congr (exec_stopped_permitView _ rfl hrun h) hs

end

/-- Settles O6: on a running part every change of the tally, of the mode or of the wake table drives the permits anew
(`exec_driven`), and on any other they are withdrawn. -/
theorem stepKeepsPermitsFollow : Obligations.StepKeepsPermitsFollow := fun s t hs h =>
  step_keeps PermitsFollow (fun _ _ h => h) (fun c _ _ hs h => exec_permitsFollow c hs h) s t hs h

end Sys2Proof.Machine

namespace Sys2Proof.Machine

/-! ### SET BHA and SET MAKEUP LIMITS (R18, R19, R34) -/

/-- R19: the fields of a component that a SET BHA request may carry. -/
abbrev FieldTaken (c : BhaField) : Prop :=
  c.kind ≤ 4 ∧ 100 ≤ c.length ∧ c.length ≤ 20000 ∧ 40 ≤ c.od ∧ c.od ≤ 700

/-- The component that taken fields make. -/
def componentMade (c : BhaField) : Component :=
  { kind := (componentKindOf c.kind).getD .bit, length := c.length, od := c.od }

theorem componentKindOf_eq (v : Nat) : componentKindOf v = if v ≤ 4 then some ((componentKindOf v).getD .bit) else none := by
  match v with
  | 0 | 1 | 2 | 3 | 4 => rfl
  | n + 5 => simp [componentKindOf]

theorem componentKindOf_bit {v : Nat} (h : v ≤ 4) : (componentKindOf v).getD .bit = .bit ↔ v = 0 := by
  match v, h with
  | 0, _ | 1, _ | 2, _ | 3, _ | 4, _ => simp [componentKindOf]

theorem componentOf_eq (c : BhaField) : componentOf c = if FieldTaken c then some (componentMade c) else none := by
  unfold componentOf inRange componentMade
  rw [componentKindOf_eq]
  by_cases hk : c.kind ≤ 4
  · by_cases hl : 100 ≤ c.length ∧ c.length ≤ 20000
    · by_cases ho : 40 ≤ c.od ∧ c.od ≤ 700
      · simp [FieldTaken, hk, hl, ho]
      · have hno : ¬ FieldTaken c := fun h => ho h.2.2.2
        simp [hk, hl, ho, hno]
    · have hno : ¬ FieldTaken c := fun h => hl ⟨h.2.1, h.2.2.1⟩
      simp [hk, hl, hno]
  · have hno : ¬ FieldTaken c := fun h => hk h.1
    simp [hk, hno]

theorem componentsOf_eq (cs : List BhaField) :
    componentsOf cs = if ∀ c ∈ cs, FieldTaken c then some (cs.map componentMade) else none := by
  induction cs with
  | nil => rfl
  | cons c cs ih =>
    rw [componentsOf, componentOf_eq, ih]
    by_cases hc : FieldTaken c
    · by_cases hcs : ∀ c ∈ cs, FieldTaken c
      · rw [if_pos hc, if_pos hcs, if_pos (List.forall_mem_cons.mpr ⟨hc, hcs⟩)]
        rfl
      · rw [if_pos hc, if_neg hcs, if_neg fun h => hcs (List.forall_mem_cons.mp h).2]
    · rw [if_neg hc, if_neg fun h => hc (List.forall_mem_cons.mp h).1]

/-- R18: of taken components, the lowest is a bit and no other is. -/
theorem bitAtBottom_map {cs : List BhaField} (hne : cs ≠ []) (h : ∀ c ∈ cs, FieldTaken c) :
    bitAtBottom (cs.map componentMade) = true ↔ ¬ ((∃ c ∈ cs.head?, c.kind ≠ 0) ∨ ∃ c ∈ cs.tail, c.kind = 0) := by
  have hbit : ∀ c ∈ cs, (componentMade c).kind = .bit ↔ c.kind = 0 := fun c hc => componentKindOf_bit (h c hc).1
  match cs, hne with
  | x :: xs, _ =>
    obtain ⟨hx, hxs⟩ := List.forall_mem_cons.mp hbit
    simp only [List.map_cons, bitAtBottom, Bool.and_eq_true, beq_iff_eq, List.all_map, List.all_eq_true, Function.comp,
      bne_iff_ne]
    simp only [List.head?_cons, Option.mem_some_iff, List.tail_cons, exists_eq_left', not_or, not_exists, not_and,
      Decidable.not_not, hx]
    exact and_congr_right fun _ => forall₂_congr fun y hy => not_congr (hxs y hy)

/-- R19: what a SET BHA request may not carry. -/
abbrev BhaRefused (cs : List BhaField) : Prop :=
  cs.length = 0 ∨ 6 < cs.length ∨ (∃ c ∈ cs, ¬ FieldTaken c) ∨ (∃ c ∈ cs.head?, c.kind ≠ 0) ∨ ∃ c ∈ cs.tail, c.kind = 0

theorem bhaGiven_eq (cs : List BhaField) :
    bhaGiven cs = if BhaRefused cs then none else some (cs.map componentMade) := by
  unfold bhaGiven
  by_cases hlength : cs.length = 0 ∨ 6 < cs.length
  · rw [if_pos hlength, if_pos (or_assoc.mp (.inl hlength))]
  · rw [if_neg hlength, componentsOf_eq]
    by_cases hcs : ∀ c ∈ cs, FieldTaken c
    · have hbottom := bitAtBottom_map (fun hnil => hlength (.inl (List.length_eq_zero_iff.mpr hnil))) hcs
      have hrefused : BhaRefused cs ↔ ¬ bitAtBottom (cs.map componentMade) = true := by
        rw [hbottom, Decidable.not_not, BhaRefused, ← or_assoc, or_iff_right hlength, or_iff_right]
        rintro ⟨c, hc, hno⟩
        exact hno (hcs c hc)
      rw [if_pos hcs, ite_congr (propext hrefused) (fun _ => rfl) fun _ => rfl, ite_not]
    · have hno : ∃ c ∈ cs, ¬ FieldTaken c := by simpa only [Classical.not_forall, exists_prop] using hcs
      rw [if_neg hcs, if_pos (.inr (.inr (.inl hno)))]

theorem bhaGiven_isNone (cs : List BhaField) : (bhaGiven cs).isNone = true ↔ BhaRefused cs := by
  rw [bhaGiven_eq]
  split <;> simp [*]

/-- Settles O20: the checks of R19 and R34 one by one, and then what each stores. -/
theorem tallyConfigurationRequests : Obligations.TallyConfigurationRequests := by
  refine ⟨fun p components s h => request_eq h ?_, fun p minimum maximum s h => request_eq h ?_⟩
  · refine settledBy_check (onlyFrom_floor p) fun _ => ?_
    refine settledBy_check (onlyInSetup_iff s) fun _ => ?_
    refine settledBy_check (bhaGiven_isNone components) fun htaken => ?_
    refine settledBy_check (by simp) fun _ => ?_
    have hgiven : bhaGiven components = some (components.map componentMade) :=
      (bhaGiven_eq components).trans (if_neg htaken)
    rw [hgiven]
    exact settledBy_taken ..
  · refine settledBy_check (onlyFrom_floor p) fun _ => ?_
    refine settledBy_check (onlyInSetup_iff s) fun _ => ?_
    refine settledBy_check (by simp only [Bool.or_eq_true, inRange_isNone, decide_eq_true_eq]; omega) fun _ => ?_
    exact settledBy_taken ..

end Sys2Proof.Machine

namespace Sys2Proof.Machine

/-! ### The moves between tally states (R25 to R28, R35) -/

theorem pumpLevel_onBlock {t : Tally} {m : Modes} (ht : t.state = .onBlock) (hm : m.mode ≠ .standby) :
    pumpLevel t m = true := by
  simp [pumpLevel, ht, hm]

section
variable {p : Port} {code : Nat} {s next : State} {r : Response} {states : List TallyState}

/-- R23: a move with no check of its own. -/
theorem settledBy_moveChecks_only
    (hr : s.modes.mode ≠ .standby → s.tally.state ∈ states → settledBy p code r = next) :
    settledBy p code (judgedMove code (moveChecks p states s) s r) = moveOutcome p code states s next := by
  rw [← List.append_nil (moveChecks p states s)]
  exact settledBy_moveChecks hr

end

theorem setSlipsTaken_eq {s : State} (hm : s.modes.mode ≠ .standby) :
    setSlipsTaken s = recheck (depthCompute { s with tally := { s.tally with
      state := .inSlipsLatched, stab := none, lastMove := some s.seconds,
      slips := { s.tally.slips with drive := true }, pump := { s.tally.pump with drive := true } } }) := by
  rw [setSlipsTaken, moveTo_eq (slipsLevel_latched rfl rfl hm) (pumpLevel_latched rfl hm)]

theorem releaseSlipsTaken_eq {s : State} (hm : s.modes.mode ≠ .standby) :
    releaseSlipsTaken s = recheck (depthCompute { s with
      tally := { s.tally with
        state := .onBlock, stab := none, lastMove := some s.seconds,
        slips := { s.tally.slips with drive := false }, pump := { s.tally.pump with drive := true } },
      depth := { s.depth with stringTop := s.depth.block.map fun h : Nat => (h : Int) } }) := by
  rw [releaseSlipsTaken, moveTo_eq (slipsLevel_elsewhere (by simp)) (pumpLevel_onBlock rfl hm)]
  rfl

/-- R26: RELEASE SLIPS, judged once the sense lines have been sampled. -/
theorem execReleaseSlips_eq {p : Port} {pins : SensePins} {s next : State} (h : s.power = .running)
    (hr : settledBy p 18 (judgedMove 18
        (moveChecks p [.inSlipsLatched] (sensePermits pins s) ++ [(!(s.tally.slips.drive && pins.slips), .sequence)])
        (sensePermits pins s) (taken (releaseSlipsTaken (sensePermits pins s)))) = next) :
    execReleaseSlips p pins s = .next next := hr ▸ writeTransaction_running p _ s h

/-- Settles O21: the checks of R23, for RELEASE SLIPS the drive and the level sensed, and then the move. -/
theorem slipsRequests : Obligations.SlipsRequests := by
  refine ⟨fun p s h => moveRequest_eq h (settledBy_moveChecks_only fun hm _ => ?_), fun p pins s h => execReleaseSlips_eq h ?_⟩
  · rw [settledBy_taken, setSlipsTaken_eq hm]
  · refine settledBy_moveChecks (s := sensePermits pins s) fun hm _ => ?_
    rw [← ite_not]
    refine settledBy_moveCheck ?_ (settledBy_refuseMove_sequence ..) fun _ => ?_
    · rw [Bool.not_eq_true', ← Bool.not_eq_true, Bool.and_eq_true]
    · rw [settledBy_judgedMove_nil, settledBy_taken, releaseSlipsTaken_eq hm]
      rfl

/-- Settles O22: the checks of R23 and R36, and then the move as R27, R28 or R35 has it. -/
theorem unlatchLatchAndStab : Obligations.UnlatchLatchAndStab := by
  refine ⟨fun p s h => moveRequest_eq h (settledBy_moveChecks_only fun _ _ => ?unlatch),
    fun p s h => moveRequest_eq h (settledBy_moveChecks fun hm hstate => ?latch),
    fun p s h => moveRequest_eq h (settledBy_moveChecks_only fun _ hstate => ?stab)⟩
  case unlatch => rw [settledBy_taken, moveTo_eq (slipsLevel_elsewhere (by simp)) (pumpLevel_elsewhere (by simp) (by simp))]
  case latch =>
    rw [List.mem_singleton] at hstate
    refine settledBy_confirmChecks (rest := []) (by simp [makeupSerial, hstate, topSerial]) ?_
    rw [settledBy_judgedMove_nil, settledBy_taken, moveTo_eq (slipsLevel_latched rfl rfl hm) (pumpLevel_latched rfl hm)]
  case stab =>
    have hlatched : s.tally.state ≠ .inSlipsLatched := fun he => by simp [he] at hstate
    have hblock : s.tally.state ≠ .onBlock := fun he => by simp [he] at hstate
    rw [settledBy_taken, moveTo_eq (x := { s.tally with stab := some s.seconds }) (slipsLevel_elsewhere hlatched)
      (pumpLevel_elsewhere hlatched hblock)]

end Sys2Proof.Machine

namespace Sys2Proof.Machine

/-! ### PICK ROD, RACK ROD, LAY OUT ROD and RESOLVE ROD (R14, R30, R32, R33, R42) -/

section
variable {p : Port} {code slot serial : Nat} {s next : State} {r : Response} {rest : List (Bool × ReplyCode)}

/-- R14: the checks of a put into a slot. -/
theorem settledBy_putChecks (hr : settledBy p code r = next) :
    settledBy p code (judgedMove code (putChecks s.rack slot) s r) = putOutcome p code slot s next := by
  unfold putOutcome putChecks
  refine settledBy_moveCheck decide_eq_true_iff (settledBy_refuse ..) fun _ => ?_
  refine settledBy_moveCheck Option.isSome_iff_ne_none (settledBy_refuse ..) fun _ => ?_
  exact settledBy_moveCheck (by simp) (settledBy_refuse ..) fun _ => hr

/-- R21: a rod that is held passes the check for one. -/
theorem settledBy_rodMissing (hh : s.tally.handling = some serial) (hrest : settledBy p code (judgedMove code rest s r) = next) :
    settledBy p code (judgedMove code (rodMissing s :: rest) s r) = next := by
  rw [rodMissing, hh, settledBy_judgedMove_cons, if_neg (by simp), hrest]

/-- R15, R33: the check of the laid-out list. -/
theorem settledBy_laidOutFull (hr : settledBy p code r = next) :
    settledBy p code (judgedMove code [laidOutFull s.rack] s r) =
      if 32 ≤ s.rack.laidOut.length then settled p code .full [] s else next :=
  settledBy_moveCheck decide_eq_true_iff (settledBy_refuse ..) fun _ => hr

theorem heldSerial_eq (hh : s.tally.handling = some serial) : heldSerial s = serial := by simp [heldSerial, hh]

theorem rackHeldRod_eq (hh : s.tally.handling = some serial) : rackHeldRod slot s = rackedInSlot slot serial s := by
  rw [rackHeldRod, heldSerial_eq hh]
  simp only
  rw [moveTo_eq (slipsLevel_elsewhere (by simp)) (pumpLevel_elsewhere (by simp) (by simp))]
  rfl

theorem layOutHeldRod_eq (hh : s.tally.handling = some serial) : layOutHeldRod s = laidOutAtTail serial s := by
  rw [layOutHeldRod, heldSerial_eq hh]
  simp only
  rw [moveTo_eq (slipsLevel_elsewhere (by simp)) (pumpLevel_elsewhere (by simp) (by simp))]
  rfl

theorem resolveToString_eq (hm : s.modes.mode ≠ .standby) (hh : s.tally.handling = some serial) :
    resolveToString s = recheck (depthCompute { s with
      tally := { s.tally with
        stack := s.tally.stack ++ [serial], handling := none, state := .inSlipsLatched, stab := none,
        lastMove := some s.seconds, slips := { s.tally.slips with drive := true },
        pump := { s.tally.pump with drive := true } },
      depth := { s.depth with
        stringTop := s.depth.stringTop.map (· + (rodLength s.rack.rods serial : Int)) } }) := by
  rw [resolveToString, heldSerial_eq hh, moveTo_eq (slipsLevel_latched rfl rfl hm) (pumpLevel_latched rfl hm)]
  rfl

/-- R30: the notice of a WORN rod picked. -/
theorem noteWornPick_eq {rods : List Rod} (hrods : s.rack.rods = rods) :
    noteWornPick serial s =
      match rods.find? fun r => r.serial == serial with
      | some r => if r.status = .worn then raise .rodWorn serial r.jointsMade s else s
      | none => s := by
  unfold noteWornPick findRod
  rw [hrods]
  cases rods.find? fun r => r.serial == serial with
  | none => rfl
  | some r => simp only [raiseIf, beq_iff_eq]

/-- R13, R30: the state in which the pick of a rod leaves the part, before its notice. -/
theorem pickRodTaken_eq (ho : (slotAt s.rack slot).occupant = some serial) :
    pickRodTaken slot s = recheck (noteWornPick serial { s with
      rack := { s.rack with slots := s.rack.slots.set slot { slotAt s.rack slot with
        occupant := none, sensed := .unknown, discrepancy := false } },
      tally := { s.tally with
        handling := some serial, state := .rodHeldAdd, stab := none, lastMove := some s.seconds,
        slips := { s.tally.slips with drive := false }, pump := { s.tally.pump with drive := false } } }) := by
  have hserial : (slotAt s.rack slot).occupant.getD 0 = serial := by simp [ho]
  rw [pickRodTaken, hserial]
  simp only
  rw [moveTo_eq (slipsLevel_elsewhere (by simp)) (pumpLevel_elsewhere (by simp) (by simp))]
  rfl

end

/-- Settles O24: the checks of R23 and R14 in order, and then the rod's new place. -/
theorem pickRackAndLayOut : Obligations.PickRackAndLayOut := by
  refine ⟨fun p slot s h => moveRequest_eq h ?pick, fun p slot serial s h hheld => moveRequest_eq h ?rack,
    fun p serial s h hheld => moveRequest_eq h (settledBy_moveChecks fun _ hstate => ?layOut)⟩
  case pick =>
    rw [List.append_assoc]
    refine settledBy_moveChecks fun _ _ => ?_
    refine settledBy_moveCheck Option.isSome_iff_ne_none (settledBy_refuseMove_sequence ..) fun _ => ?_
    refine settledBy_moveCheck decide_eq_true_iff (settledBy_refuse ..) fun _ => ?_
    cases ho : (slotAt s.rack slot).occupant with
    | none => rw [settledBy_judgedMove_cons, if_pos (by simp)]; exact settledBy_refuse ..
    | some serial =>
      rw [settledBy_judgedMove_cons, if_neg (by simp)]
      refine settledBy_moveCheck (by simp) (settledBy_refuse ..) fun _ => ?_
      rw [settledBy_judgedMove_nil, settledBy_taken]
      exact congrArg (settled p 22 .ok []) ((pickRodTaken_eq ho).trans (congrArg recheck (noteWornPick_eq rfl)))
  case rack =>
    rw [List.append_assoc]
    refine settledBy_moveChecks fun _ hstate => settledBy_rodMissing (hheld hstate) (settledBy_putChecks ?_)
    rw [settledBy_taken, rackHeldRod_eq (hheld hstate)]
  case layOut =>
    refine settledBy_rodMissing (hheld hstate) (settledBy_laidOutFull ?_)
    rw [settledBy_taken, layOutHeldRod_eq (hheld hstate)]

/-- Settles O25: the checks of R42 in order, and then those of the destination and its move. -/
theorem resolveRodByDestination : Obligations.ResolveRodByDestination := by
  intro p destination slot serial s h hheld
  refine moveRequest_eq h ?_
  refine settledBy_moveCheck (onlyFrom_floor p) (settledBy_refuse ..) fun _ => ?_
  refine settledBy_moveCheck beq_iff_eq (settledBy_refuse ..) fun hm => ?_
  refine settledBy_moveCheck bne_iff_ne (settledBy_refuseMove_sequence ..) fun hstate => ?_
  have hh := hheld (Decidable.not_not.mp hstate)
  refine settledBy_rodMissing hh ?_
  match destination with
  | 0 => exact (settledBy_taken ..).trans (congrArg (settled p 27 .ok []) (resolveToString_eq hm hh))
  | 1 => exact settledBy_putChecks ((settledBy_taken ..).trans (congrArg (settled p 27 .ok []) (rackHeldRod_eq hh)))
  | 2 => exact settledBy_laidOutFull ((settledBy_taken ..).trans (congrArg (settled p 27 .ok []) (layOutHeldRod_eq hh)))
  | _ + 3 => exact settledBy_refuse ..

end Sys2Proof.Machine

namespace Sys2Proof.Machine

/-! ### The expiry of a stab, staleness, and the permit readback (R37, R40, R74) -/

theorem expireStab_eq (s : State) : expireStab s = stabExpired s := by
  unfold expireStab stabExpired stabDue
  cases s.tally.stab with
  | none => rfl
  | some start => simp only [decide_eq_true_eq]; rfl

theorem makeStale_eq (s : State) : makeStale s = circulationStale s := by
  unfold makeStale circulationStale staleDue
  cases hr : s.circ.reportSecond with
  | none => simp
  | some second =>
    have hdue : (s.circ.status != .stale && decide (10 ≤ elapsed s.seconds second)) = true ↔
        s.circ.status ≠ .stale ∧ 10 ≤ elapsed s.seconds second := by simp
    exact ite_congr (propext hdue) (fun _ => rfl) fun _ => rfl

/-- Settles O26: the two events, each with the condition of its rule. -/
theorem expiryAndStaleness : Obligations.ExpiryAndStaleness :=
  ⟨fun s h => (whileRunning_running _ s h).trans (congrArg _ (expireStab_eq s)),
    fun s h => (whileRunning_running _ s h).trans (congrArg _ (makeStale_eq s))⟩

/-- R40: the comparison of a line at a level sensed, and whether it faults the line. -/
theorem comparedLine_eq (x : PermitLine) (sense : Bool) :
    comparedLine x sense = (compareLine { x with sense := sense }, faultsNow { x with sense := sense }) := by
  unfold comparedLine faultsNow compareLine
  by_cases hagree : sense = x.drive
  · simp [hagree]
  · match hm : x.mismatch with
    | 0 => simp [hagree]
    | 1 => simp [hagree]
    | n + 2 =>
      have hcapped : ¬ n + 2 < 2 := Nat.not_lt.mpr (Nat.le_add_left 2 n)
      simp [hagree, hcapped]

theorem permitReadback_eq (pins : SensePins) (s : State) :
    permitReadback pins s =
      let slips := { s.tally.slips with sense := pins.slips }
      let pump := { s.tally.pump with sense := pins.pump }
      let noted := raiseIf (faultsNow pump) .permitFault 2 s.tally.pump.drive.toNat
        (raiseIf (faultsNow slips) .permitFault 1 s.tally.slips.drive.toNat
          { s with tally := { s.tally with slips := compareLine slips, pump := compareLine pump } })
      if faultChanges slips || faultChanges pump then recheck noted else noted := rfl

/-- R173: neither fault flag changes. -/
theorem not_faultChanges_iff (x y : PermitLine) :
    ¬ (faultChanges x || faultChanges y) = true ↔ (compareLine x).fault = x.fault ∧ (compareLine y).fault = y.fault := by
  simp only [Bool.or_eq_true, not_or, faultChanges, bne_iff_ne, ne_eq, Decidable.not_not]
  exact and_congr eq_comm eq_comm

/-- R40: the second comparison of a line, with its condition as a proposition. -/
theorem secondComparison_eq (q : Permit) (sense : Bool) (s : State) :
    secondComparison q sense s =
      if sense ≠ (lineOf s.tally q).drive ∧ 1 ≤ (lineOf s.tally q).mismatch ∧ (lineOf s.tally q).fault = false then
        recheck (raise .permitFault (permitNumber q) (lineOf s.tally q).drive.toNat
          (s.setTally (setLine q { lineOf s.tally q with sense := sense, mismatch := 2, fault := true } s.tally)))
      else s := by
  refine ite_congr (propext ?_) (fun _ => rfl) fun _ => rfl
  simp [and_assoc]

/-- Settles O27: each line by its comparison, and the second comparison of one line. -/
theorem permitReadbackAndFault : Obligations.PermitReadbackAndFault := by
  refine ⟨fun pins s => ?_, fun sense s h => ?_, fun sense s h => ?_⟩
  · simp only [comparedLine_eq]
    rw [permitReadback_eq, ← ite_not]
    exact ite_congr (propext (not_faultChanges_iff _ _)) (fun _ => rfl) fun _ => rfl
  · exact (whileRunning_running _ s h).trans (congrArg _ (secondComparison_eq .slips sense s))
  · exact (whileRunning_running _ s h).trans (congrArg _ (secondComparison_eq .pump sense s))

end Sys2Proof.Machine

namespace Sys2Proof.Machine

/-! ### The depth computation, case by case (R50 to R56) -/

section
variable {s : State} {top : Int} {raw hole : Nat}

theorem depthCompute_above {v : Int} (htop : s.depth.stringTop = some top) (hraw : v = (lengthOfString s : Int) - top)
    (h : v < 0) :
    depthCompute s = { s with depth := { s.depth with
      raw := some v, bit := some 0, aboveTable := true, disagree := s.depth.disagree && !s.job.isOpen,
      limit := s.depth.limit && !s.job.isOpen } } := by
  subst hraw
  simp only [depthCompute, htop, stringLength_eq, if_pos h]
  rfl

/-- R50, R51: the raw bit depth stored, at or below the table. -/
def rawStored (raw : Nat) (s : State) : State :=
  { s with depth := { s.depth with raw := some (raw : Int), aboveTable := false } }

theorem depthCompute_below (htop : s.depth.stringTop = some top) (hraw : (raw : Int) = (lengthOfString s : Int) - top) :
    depthCompute s = holeStep raw (rawStored raw s) := by
  have hnot : ¬ ((raw : Int) < 0) := by omega
  simp only [depthCompute, htop, stringLength_eq, ← hraw, if_neg hnot, Int.toNat_natCast, rawStored]
  rfl

/-! #### The step after the zero clamp (R53) -/

theorem holeStep_noJob (hjob : s.job.isOpen = false) :
    holeStep raw s = { s with depth := { s.depth with bit := some raw } } := by
  unfold holeStep
  rw [hjob]
  rfl

theorem holeStep_job (hjob : s.job.isOpen = true) (hhole : s.depth.hole = some hole) :
    holeStep raw s =
      if raw ≤ hole then { s with depth := { s.depth with bit := some raw, disagree := false, limit := false } }
      else if failingConditions s = 0 then advanceHole raw hole s
      else clampToHole raw hole s := by
  unfold holeStep
  rw [hjob, hhole]
  rfl

theorem clampToHole_eq (raw hole : Nat) (s : State) :
    clampToHole raw hole s =
      let raising := decide (hole + 500 < raw) && !s.depth.disagree
      let clamped := { s with depth := { s.depth with
        bit := some hole, disagree := s.depth.disagree || raising, limit := s.depth.limit && decide (1600000 < raw) } }
      if raising = true then raise .depthDisagree (failingConditions s) raw clamped else clamped := rfl

/-- R53, R55: below the greatest hole depth, the hole advances and the increment is handed on. -/
theorem advanceHole_below (h : hole < raw) (hcap : hole < 1600000) :
    advanceHole raw hole s =
      let reached := min raw 1600000
      let capped := decide (1600000 < raw)
      let handed := handIncrement hole reached { s with depth := { s.depth with
        bit := some reached, hole := some reached, disagree := s.depth.disagree && capped,
        limit := s.depth.limit && capped } }
      if capped = true ∧ s.depth.limit = false then
        raise .depthLimit 0 raw { handed with depth := { handed.depth with limit := true } }
      else handed := by
  have hreached : advancedHole raw hole = min raw 1600000 := if_pos hcap
  have hless : min raw 1600000 < raw ↔ 1600000 < raw := by omega
  have hgrows : hole < min raw 1600000 := by omega
  unfold advanceHole
  simp only [hreached, hless, if_pos hgrows]
  refine ite_congr ?_ (fun _ => rfl) fun _ => rfl
  simp

/-- R55: at the greatest hole depth, the hole stays and DEPTH_LIMIT is raised once. -/
theorem advanceHole_capped (h : hole < raw) (hcap : hole = 1600000) (hhole : s.depth.hole = some hole) :
    advanceHole raw hole s =
      let clamped := { s with depth := { s.depth with bit := some hole } }
      if s.depth.limit = false then raise .depthLimit 0 raw { clamped with depth := { clamped.depth with limit := true } }
      else clamped := by
  have hreached : advancedHole raw hole = hole := if_neg (by simp [hcap, Config.holeCap])
  unfold advanceHole
  simp only [hreached, h, decide_true, Bool.and_true, Bool.true_and, Nat.lt_irrefl, if_false, ← hhole]
  refine ite_congr ?_ (fun _ => rfl) fun _ => rfl
  simp

end

/-- Settles O29: the raw bit depth by its sign, and then the step after the zero clamp. -/
theorem depthComputationByRule : Obligations.DepthComputationByRule := by
  refine ⟨fun s htop => by simp [depthCompute, htop], fun top raw s htop hraw => ⟨depthCompute_above htop hraw, ?_⟩⟩
  by_cases hpos : 0 ≤ raw
  case neg => exact ⟨fun h => absurd h hpos, fun _ h => absurd h hpos⟩
  obtain ⟨raw, rfl⟩ := Int.eq_ofNat_of_zero_le hpos
  have hbelow := depthCompute_below htop hraw
  refine ⟨fun _ hjob => hbelow.trans (holeStep_noJob hjob), fun hole _ hjob hhole => ?_⟩
  have hstep := hbelow.trans (holeStep_job (s := rawStored raw s) hjob hhole)
  refine ⟨fun hle => ?within, fun hlt hfailing => ?clamped, fun hlt hadvance hcap => ?advanced,
    fun hlt hadvance hcap => ?capped⟩
  case within => exact hstep.trans (if_pos (Int.ofNat_le.mp hle))
  all_goals
    have hless : hole < raw := Int.ofNat_lt.mp hlt
    rw [if_neg (Nat.not_le.mpr hless)] at hstep
  case clamped =>
    have hover : ((hole : Int) + 500 < raw) = (hole + 500 < raw) := propext (by omega)
    have hcap : ((1600000 : Int) < raw) = (1600000 < raw) := propext (by omega)
    simp only [hover, hcap]
    exact hstep.trans ((if_neg hfailing).trans (clampToHole_eq raw hole _))
  case advanced =>
    have hover : ((1600000 : Int) < raw) = (1600000 < raw) := propext (by omega)
    simp only [hover]
    exact hstep.trans ((if_pos hadvance).trans (advanceHole_below hless hcap))
  case capped => exact hstep.trans ((if_pos hadvance).trans (advanceHole_capped hless hcap hhole))

end Sys2Proof.Machine

namespace Sys2Proof.Machine

/-! ### What a device second leaves of the log and of the tally -/

section
variable {s t : State}

/-! A change of mode leaves the intervals: the entry to SETUP abandons the samples queued and clears the candidate (R100, R127). -/

@[simp] theorem registerSample_intervals (number origin : Nat) (status : SampleStatus) (caught : Bool) (s : State) :
    (registerSample number origin status caught s).log.intervals = s.log.intervals := rfl

@[simp] theorem abandonQueue_intervals (s : State) : (abandonQueue s).log.intervals = s.log.intervals :=
  foldl_keeps (fun s => s.log.intervals) (fun s (e : LagEntry) => registerSample e.number e.origin .abandoned false s)
    (fun _ _ => rfl) _ _

@[simp] theorem logEnterSetup_intervals (s : State) : (logEnterSetup s).log.intervals = s.log.intervals := rfl

@[simp] theorem enterSetupSteps_intervals (s : State) : (enterSetupSteps s).log.intervals = s.log.intervals := by
  simp [enterSetupSteps]

@[simp] theorem setMode_intervals (m : Mode) (s : State) : (setMode m s).log.intervals = s.log.intervals := by
  unfold setMode
  simp only
  split
  · rfl
  · split <;> simp

@[simp] theorem recheck_intervals (s : State) : (recheck s).log.intervals = s.log.intervals := by
  unfold recheck
  split
  · split <;> simp
  · rfl

/-- The fields of a state, beside its depth unit and its job, that the activity of a second and its credit are read from. -/
structure MoveView where
  state : TallyState
  lastMove : Option Nat
  intervals : List Interval

def moveView (s : State) : MoveView := ⟨s.tally.state, s.tally.lastMove, s.log.intervals⟩

@[simp] theorem moveView_expireStab (s : State) : moveView (expireStab s) = moveView s := by
  unfold expireStab
  split <;> simp [moveView]

@[simp] theorem moveView_makeStale (s : State) : moveView (makeStale s) = moveView s := by
  unfold makeStale
  split <;> simp [moveView]

@[simp] theorem moveView_wearSecond (s : State) : moveView (wearSecond s) = moveView s := by simp [moveView]

@[simp] theorem moveView_permitReadback (pins : SensePins) (s : State) : moveView (permitReadback pins s) = moveView s := by
  unfold permitReadback
  simp only
  split <;> simp [moveView, sensePermits]

/-! ### The activity of a second (R58, R60) -/

theorem trippingNow_iff (s : State) :
    trippingNow s = true ↔ s.tally.state ≠ .onBlock ∨ ∃ m ∈ s.tally.lastMove, elapsed s.seconds m < 180 := by
  unfold trippingNow
  cases s.tally.lastMove <;> simp

/-- R60: the table, line by line. -/
theorem activityNow_eq (s : State) : activityNow s = activityByTable s.seconds (s.circ.status == .on) s := by
  unfold activityNow activityByTable
  refine ite_congr rfl (fun _ => rfl) fun _ => ite_congr (propext (trippingNow_iff s)) (fun _ => rfl) fun _ => ?_
  refine ite_congr ?_ (fun _ => rfl) fun _ => rfl
  rw [Bool.and_eq_true, Bool.and_eq_true, onBottom_iff, and_assoc]

/-- The table looks at the depth unit, the job, the tally state and the last move, beside the second and the circulation. -/
theorem activityByTable_congr (n : Nat) (on : Bool) (hdepth : t.depth = s.depth) (hjob : t.job = s.job)
    (hmove : moveView t = moveView s) : activityByTable n on t = activityByTable n on s := by
  simp only [moveView, MoveView.mk.injEq] at hmove
  obtain ⟨hstate, hlast, -⟩ := hmove
  simp only [activityByTable, hdepth, hjob, hstate, hlast]

/-! ### The pieces of work of a device second -/

theorem logSecond_eq (s : State) :
    logSecond s = if s.job.isOpen = true ∧ s.depth.activity = .drilling then drilledOneSecond s else s :=
  ite_congr (by simp) (fun _ => rfl) fun _ => rfl

theorem logSecond_intervals (s : State) :
    (logSecond s).log.intervals =
      if s.job.isOpen = true ∧ s.depth.activity = .drilling then
        s.log.intervals.modify (s.log.intervals.length - 1) fun x =>
          { x with drilledSeconds := min 4294967295 (x.drilledSeconds + 1) }
      else s.log.intervals := by
  rw [logSecond_eq]
  split <;> rfl

theorem clockSecond_eq (s : State) : clockSecond s = jobSecond s :=
  ite_congr (by rw [Bool.and_eq_true, decide_eq_true_iff, Config.max32]) (fun _ => rfl) fun _ => rfl

theorem jobSecond_job (s : State) :
    (jobSecond s).job = { s.job with clock := if s.job.isOpen = true ∧ s.job.clock < 4294967295 then s.job.clock + 1
                                             else s.job.clock } := by
  unfold jobSecond
  split
  · simp
  · rfl

theorem deriveActivity_eq (s : State) :
    deriveActivity s = { s with depth := { s.depth with
      activity := activityByTable s.seconds (s.circ.status == .on) s } } := by
  rw [← activityNow_eq]
  rfl

theorem nextSecond_of_lt {n : Nat} (h : n < 4294967295) : nextSecond n = n + 1 := if_pos h

/-- The state of a second when its permits have been compared: its activity comes next (log entry 5). -/
def secondCompared (pins : SensePins) (s : State) : State :=
  permitReadback pins (wearSecond (advanceSeconds (overdueExpiries s)))

theorem secondPasses_eq (pins : SensePins) (s : State) :
    secondPasses pins s = clockSecond (logSecond (deriveActivity (secondCompared pins s))) := rfl

@[simp] theorem secondCompared_frame (pins : SensePins) (s : State) :
    (secondCompared pins s).power = s.power ∧ (secondCompared pins s).seconds = nextSecond s.seconds ∧
    (secondCompared pins s).storeBlank = s.storeBlank ∧ (secondCompared pins s).depth = s.depth ∧
    (secondCompared pins s).levels = s.levels ∧ (secondCompared pins s).job = s.job ∧
    (secondCompared pins s).pending = s.pending := by
  simp [secondCompared, advanceSeconds]

theorem moveView_secondCompared (pins : SensePins) (s : State) : moveView (secondCompared pins s) = moveView s := by
  have hadvance : moveView (advanceSeconds (overdueExpiries s)) = moveView (makeStale (expireStab s)) := rfl
  simp [secondCompared, hadvance]

/-- R60: the activity that a second derives, read from the state before it. -/
theorem secondPasses_depth (pins : SensePins) (s : State) :
    (secondPasses pins s).depth = { s.depth with
      activity := activityByTable (secondPasses pins s).seconds ((secondPasses pins s).circ.status == .on) s } := by
  have hactivity : activityByTable (secondCompared pins s).seconds ((secondCompared pins s).circ.status == .on)
      (secondCompared pins s) =
      activityByTable (secondPasses pins s).seconds ((secondPasses pins s).circ.status == .on) s := by
    simp only [secondPasses_eq, clockSecond_frame, logSecond_frame, deriveActivity_frame]
    exact activityByTable_congr _ _ (by simp) (by simp) (moveView_secondCompared pins s)
  rw [← hactivity]
  simp [secondPasses_eq, deriveActivity_eq]

end

/-- Settles O31: each piece of the second by its own equation, in the order in which they are done. -/
theorem deviceSecondClocksAndActivity : Obligations.DeviceSecondClocksAndActivity := by
  refine ⟨fun pins s h => ⟨secondPasses pins s, whileRunning_running _ s h, fun hlt => ?seconds, ?job,
    secondPasses_depth pins s, ?intervals, ?power, ?pending, ?levels, ?blank⟩, fun pins s h => ?_⟩
  case seconds => simpa [secondPasses_eq] using nextSecond_of_lt hlt
  case job => simp [secondPasses_eq, clockSecond_eq, jobSecond_job]
  case intervals =>
    have hlog : (secondCompared pins s).log.intervals = s.log.intervals :=
      congrArg MoveView.intervals (moveView_secondCompared pins s)
    simp only [secondPasses_eq, clockSecond_frame, logSecond_frame, logSecond_intervals, deriveActivity_frame,
      secondCompared_frame, hlog]
  case power | pending | levels | blank => simp [secondPasses_eq]
  refine (whileRunning_running _ s h).trans (congrArg _ ?_)
  have hexpired : overdueExpiries s = circulationStale (stabExpired s) := by
    rw [overdueExpiries, makeStale_eq, expireStab_eq]
  have hseconds : (circulationStale (stabExpired s)).seconds = s.seconds := by simp [← hexpired]
  rw [secondPasses, clockSecond_eq, logSecond_eq, deriveActivity_eq, hexpired, advanceSeconds, hseconds]
  rfl

end Sys2Proof.Machine

namespace Sys2Proof.Machine

/-! ### Power and the RESET input (R39, R41, R149, R196, R197) -/

theorem entryFailing_eq (s : State) : entryFailing s = entrySum s := by simp [entryFailing, entrySum]

theorem slipsLevel_eq (t : Tally) (m : Modes) :
    slipsLevel t m = decide (t.state = .inSlipsLatched ∧ t.stab = none ∧ m.mode ≠ .standby) := by
  rw [Bool.eq_iff_iff, decide_eq_true_iff, slipsLevel]
  cases t.state <;> simp

theorem pumpLevel_eq (t : Tally) (m : Modes) :
    pumpLevel t m = decide ((t.state = .onBlock ∨ t.state = .inSlipsLatched) ∧
      (m.mode ≠ .standby ∨ m.circulation.wake = true)) := by
  rw [Bool.eq_iff_iff, decide_eq_true_iff, pumpLevel]
  cases t.state <;> simp

theorem drivePermits_eq (s : State) : drivePermits s = { s with tally := permitsUnder s.modes s.tally } := by
  rw [drivePermits, slipsLevel_eq, pumpLevel_eq]
  rfl

/-! #### The six steps of the power-on sequence (R197) -/

/-- R197, step 1: what is lost and what is kept. -/
theorem volatileReset_eq (x : Power) (s : State) : (volatileReset s).setPower x = volatileLost x s := rfl

/-- R197, step 3. -/
theorem chooseMode_eq (s : State) :
    chooseMode s =
      let mode : Mode := if s.job.isOpen = true ∧ entrySum s = 0 then .watch else .setup
      if mode = s.modes.mode then s
      else raise .modeChanged mode.code s.modes.mode.code { s with modes := { s.modes with mode := mode } } := by
  rw [← entryFailing_eq]
  rfl

theorem chooseMode_frame (s : State) : (chooseMode s).tally = s.tally ∧ (chooseMode s).job = s.job := by
  unfold chooseMode
  simp only
  split <;> exact ⟨rfl, rfl⟩

/-- R149, R197, step 4. -/
theorem countPowerEvent_eq (s : State) :
    countPowerEvent s = { s with meter := { s.meter with openTicket := s.meter.openTicket.map fun x : Ticket =>
      if s.job.isOpen = true then { x with powerEvents := min 65535 (x.powerEvents + 1) } else x } } := by
  unfold countPowerEvent
  cases hjob : s.job.isOpen with
  | false => simp
  | true =>
    cases hticket : s.meter.openTicket with
    | none =>
      simp only [Option.map_none]
      rw [← hticket]
    | some t => rfl

/-- R41, R197, step 5. -/
theorem checkTally_held {s : State} {serial : Nat} (h : s.tally.handling = some serial) :
    checkTally s = raise .rodUnresolved serial 0 { s with tally := { s.tally with state := .unresolved } } := by
  rw [checkTally, h]
  rfl

theorem checkTally_empty {s : State} (h : s.tally.handling = none) : checkTally s = s := by rw [checkTally, h]

/-- R197: the power of the part changes no step of the sequence. -/
theorem powerUp_eq (valid : Bool) (s : State) :
    powerUp valid s = drivePermits (checkTally (countPowerEvent (chooseMode
      ((readStore valid (volatileReset s)).setPower .running)))) := by
  have hchoose : ∀ s : State, (chooseMode s).setPower .running = chooseMode (s.setPower .running) := fun s =>
    apply_ite (fun s : State => s.setPower .running) _ _ _
  have hcount : ∀ s : State, (countPowerEvent s).setPower .running = countPowerEvent (s.setPower .running) := fun s => by
    rw [countPowerEvent_eq, countPowerEvent_eq]
    rfl
  have hcheck : ∀ s : State, (checkTally s).setPower .running = checkTally (s.setPower .running) := fun s => by
    cases h : s.tally.handling with
    | none => rw [checkTally_empty h, checkTally_empty (s := s.setPower .running) h]
    | some serial =>
      rw [checkTally_held h, checkTally_held (s := s.setPower .running) h]
      rfl
  rw [← hchoose, ← hcount, ← hcheck]
  rfl

/-- R41, R149, R197: steps 4 to 6 on a state `u`, which holds the job and the held rod of `s`. -/
theorem powerUp_afterMode {s u : State} (hjob : u.job = s.job) (hheld : u.tally.handling = s.tally.handling) :
    drivePermits (checkTally (countPowerEvent u)) =
      let ticket := u.meter.openTicket.map fun x : Ticket =>
        if s.job.isOpen = true then { x with powerEvents := min 65535 (x.powerEvents + 1) } else x
      let t := { u with meter := { u.meter with openTicket := ticket } }
      let t := match s.tally.handling with
        | none => t
        | some serial => raise .rodUnresolved serial 0 { t with tally := { t.tally with state := .unresolved } }
      { t with tally := permitsUnder t.modes t.tally } := by
  have hcounted : (countPowerEvent u).tally.handling = s.tally.handling := by rw [countPowerEvent_eq, hheld]
  rw [drivePermits_eq, ← hjob]
  cases hh : s.tally.handling with
  | none => rw [checkTally_empty (hcounted.trans hh), countPowerEvent_eq]
  | some serial => rw [checkTally_held (hcounted.trans hh), countPowerEvent_eq]

/-- R197, step 3, over the state that step 1 leaves: the mode is chosen from what is kept. -/
theorem chooseMode_volatileLost (s : State) :
    chooseMode (volatileLost .running s) =
      let t := volatileLost .running s
      let mode : Mode := if s.job.isOpen = true ∧ entrySum s = 0 then .watch else .setup
      if mode = s.modes.mode then t
      else raise .modeChanged mode.code s.modes.mode.code { t with modes := { t.modes with mode := mode } } :=
  chooseMode_eq _

/-- R197: the sequence over a valid store. -/
theorem powerUp_valid (s : State) : powerUp true s = poweredOn s := by
  obtain ⟨htally, hjob⟩ := chooseMode_frame (volatileLost .running s)
  have hheld : (chooseMode (volatileLost .running s)).tally.handling = s.tally.handling := by rw [htally]; rfl
  rw [powerUp_eq, readStore, if_pos rfl, volatileReset_eq, powerUp_afterMode (s := s) hjob hheld, chooseMode_volatileLost]
  rfl

/-- R198: the sequence over a blank store. -/
theorem powerUp_blank (s : State) : powerUp false s = { State.reset with pending := s.pending } := rfl

/-- R197, log entry 23: the RESET input asserted, by the power condition it finds. -/
theorem execResetAsserted_eq (s : State) :
    execResetAsserted s = .next (
      if s.power = .running then
        { s with power := .resetHeld, tally := { s.tally with
          slips := { s.tally.slips with drive := false }, pump := { s.tally.pump with drive := false } } }
      else if s.power = .off then { s with power := .offResetHeld }
      else s) := by
  unfold execResetAsserted
  split
  next h => rw [if_pos h]; rfl
  next h => rw [if_neg (by simp [h]), if_pos h]; rfl
  next h => rw [if_neg (by simp [h]), if_neg (by simp [h])]
  next h => rw [if_neg (by simp [h]), if_neg (by simp [h])]

theorem execResetReleased_dark (valid : Bool) {s : State} (h : s.power = .offResetHeld) :
    execResetReleased valid s = .next { s with power := .off } := by
  unfold execResetReleased
  rw [h]
  rfl

/-- Settles O58: the six steps of the sequence over a valid store and over a blank one, the other inputs by the power condition
they find, and the part that does not run. -/
theorem powerAndResetInput : Obligations.PowerAndResetInput := by
  refine ⟨fun s h => ?powerOn, fun valid s h => ?powerOnHeld, fun s => ?powerLoss, fun s => ?asserted, fun s h => ?released,
    fun s h => ?releasedBlank, fun valid s h => ?releasedDark, fun valid s h => ?releasedIdle,
    fun c s h hon hreleased hloss hasserted hread => exec_stopped c h hon hreleased hloss hasserted hread⟩
  case powerOn =>
    rw [← powerUp_valid]
    rcases h with h | h <;> simp [exec, execPowerOn, h]
  case powerOnHeld =>
    rw [← volatileReset_eq]
    rcases h with h | h <;> simp [exec, execPowerOn, h, heldByReset]
  case powerLoss =>
    rw [← volatileReset_eq]
    cases h : s.power <;> simp [exec, execPowerLoss, h, darkened]
  case asserted => exact execResetAsserted_eq s
  case released => simp [exec, execResetReleased, h, powerUp_valid]
  case releasedBlank => simp [exec, execResetReleased, h, powerUp_blank]
  case releasedDark => exact execResetReleased_dark valid h
  case releasedIdle => rcases h with h | h <;> simp [exec, execResetReleased, h]

end Sys2Proof.Machine

namespace Sys2Proof.Machine

/-! ### BLOCK, DOWN START and DOWN END (R45, R47, R49, R59) -/

theorem onlyFrom_floorOrRecord (p : Port) : (!([Port.floor, .record].contains p)) = true ↔ p = .mud := by
  cases p <;> decide

/-- R45, R47, R49: BLOCK with a rotation value that passes its check. -/
theorem blockTaken_eq {rotation : Nat} (height : Nat) (hrotation : rotation ≤ 1) (s : State) :
    blockTaken height ((switchOf rotation).getD false) s = depthCompute { s with depth := { s.depth with
      block := some height, rotation := rotation = 1,
      stringTop := if s.depth.stringTop = none ∨ s.tally.state = .onBlock then some (height : Int)
                   else s.depth.stringTop } } := by
  have hfollows : (s.depth.stringTop.isNone || following s.tally) = true ↔
      s.depth.stringTop = none ∨ s.tally.state = .onBlock := by simp [following]
  simp only [blockTaken, switchOf_of_le_one hrotation, Option.getD_some, hfollows]
  rfl

/-- Settles O28: the checks of R45 and R59 one by one, and then what each request sets. -/
theorem blockAndDownRequests : Obligations.BlockAndDownRequests := by
  refine ⟨fun p height rotation s h => request_eq h ?_, fun p s h => request_eq h ?_, fun p s h => request_eq h ?_⟩
  · refine settledBy_check (onlyFrom_floor p) fun _ => ?_
    refine settledBy_check (by simp only [Bool.or_eq_true, decide_eq_true_eq, switchOf_isNone]) fun hrange => ?_
    rw [settledBy_checked_nil, settledBy_taken, blockTaken_eq height (by omega)]
  · refine settledBy_check (onlyFrom_floorOrRecord p) fun _ => ?_
    exact settledBy_taken ..
  · refine settledBy_check (onlyFrom_floorOrRecord p) fun _ => ?_
    exact settledBy_taken ..

end Sys2Proof.Machine

namespace Sys2Proof.Machine

/-! ### The segment ends of an increment (R108) -/

theorem mem_segmentEnds {start a b e : Nat} (h : start ≤ a) :
    e ∈ segmentEnds start a b ↔ a < e ∧ e ≤ b ∧ (e - start) % 250 = 0 := by
  simp only [segmentEnds, Config.segmentLength, List.mem_map, List.mem_range]
  constructor
  · rintro ⟨i, hi, rfl⟩
    omega
  · rintro ⟨ha, hb, hwhole⟩
    exact ⟨(e - start) / 250 - (a - start) / 250 - 1, by omega, by omega⟩

theorem segmentEnds_ascending (start a b : Nat) : (segmentEnds start a b).Pairwise (· < ·) := by
  rw [segmentEnds, List.pairwise_map]
  exact List.pairwise_lt_range.imp fun h => by simp only [Config.segmentLength]; omega

/-- R108: the depths of (a, b] at whole segments from the start depth. -/
theorem segmentEnds_eq {start a : Nat} (b : Nat) (h : start ≤ a) :
    segmentEnds start a b = (List.range (b + 1)).filter fun e => a < e ∧ (e - start) % 250 = 0 := by
  have hends := segmentEnds_ascending start a b
  have hrange : ((List.range (b + 1)).filter fun e => a < e ∧ (e - start) % 250 = 0).Pairwise (· < ·) :=
    List.pairwise_lt_range.filter _
  have hsame := (List.perm_ext_iff_of_nodup (hends.imp Nat.ne_of_lt) (hrange.imp Nat.ne_of_lt)).mpr fun e => by
    rw [mem_segmentEnds h, List.mem_filter, List.mem_range, decide_eq_true_iff]
    omega
  exact hsame.eq_of_pairwise (fun x y _ _ hxy hyx => absurd hxy (Nat.lt_asymm hyx)) hends hrange

/-! ### What each block's work on an increment looks at (R56)

The log's work does not look at the sample register, nor the metering unit's at anything outside that unit. -/

section
variable {s t : State} {xs : List Sample}

theorem addDrilled_log (mm : Nat) (h : t.log = { s.log with samples := xs }) :
    (addDrilled mm t).log = { (addDrilled mm s).log with samples := xs } := by
  simp only [addDrilled, State.setLog_log, h]
  rfl

theorem breakInterval_log (c : Candidate) (e seconds : Nat) (h : t.log = { s.log with samples := xs }) :
    (breakInterval c e seconds t).log = { (breakInterval c e seconds s).log with samples := xs } := by
  simp only [breakInterval, State.setLog_log, raise_frame, h]
  rfl

theorem breakLogFull_log (c : Candidate) (h : t.log = { s.log with samples := xs }) :
    (breakLogFull c t).log = { (breakLogFull c s).log with samples := xs } := by
  simp only [breakLogFull, State.setLog_log, raise_frame, h]
  rfl

theorem judgeSegment_log (top e seconds rate : Nat) (h : t.log = { s.log with samples := xs }) :
    (judgeSegment top e seconds rate t).log = { (judgeSegment top e seconds rate s).log with samples := xs } := by
  unfold judgeSegment
  simp only [h]
  split
  · rfl
  · split
    · split
      · split
        · exact breakInterval_log _ _ _ h
        · exact breakLogFull_log _ h
      · rfl
    · rfl

/-- R110: the segment that ends at `e` counted in its interval and held as the last one completed. -/
def segmentHeld (e : Nat) (s : State) : State :=
  let top := e - Config.segmentLength
  let g := modifyInterval (indexAt s.log.intervals top) (fun x => { x with segments := x.segments + 1 }) s.log
  s.setLog { g with
    lastSegment := some { top := top, seconds := s.log.segmentSeconds, rate := segmentRate s.log.segmentSeconds } }

/-- R113: the segment that ends at `e` judged where it lies in the OPEN interval. -/
def segmentJudged (e : Nat) (s : State) : State :=
  let top := e - Config.segmentLength
  if indexAt s.log.intervals top = openIndex (segmentHeld e s).log then
    judgeSegment top e s.log.segmentSeconds (segmentRate s.log.segmentSeconds) (segmentHeld e s)
  else segmentHeld e s

theorem completeSegment_eq (e : Nat) (s : State) :
    completeSegment e s = (segmentJudged e s).setLog { (segmentJudged e s).log with segmentSeconds := 0 } := rfl

theorem segmentHeld_log (e : Nat) (h : t.log = { s.log with samples := xs }) :
    (segmentHeld e t).log = { (segmentHeld e s).log with samples := xs } := by
  simp only [segmentHeld, State.setLog_log, h]
  rfl

theorem segmentJudged_log (e : Nat) (h : t.log = { s.log with samples := xs }) :
    (segmentJudged e t).log = { (segmentJudged e s).log with samples := xs } := by
  have hheld := segmentHeld_log e h
  have hopen : openIndex (segmentHeld e t).log = openIndex (segmentHeld e s).log := by rw [hheld]; rfl
  simp only [segmentJudged, hopen, h]
  split
  · exact judgeSegment_log _ _ _ _ hheld
  · exact hheld

theorem completeSegment_log (e : Nat) (h : t.log = { s.log with samples := xs }) :
    (completeSegment e t).log = { (completeSegment e s).log with samples := xs } := by
  simp only [completeSegment_eq, State.setLog_log, segmentJudged_log e h]

theorem logIncrement_log (a b : Nat) (ends : List Nat) (h : t.log = { s.log with samples := xs }) :
    (logIncrement a b ends t).log = { (logIncrement a b ends s).log with samples := xs } := by
  induction ends generalizing a s t with
  | nil => exact addDrilled_log _ h
  | cons e ends ih => exact ih e (completeSegment_log e (addDrilled_log _ h))

/-- A log without its sample register. -/
def withoutSamples (g : StrataLog) : StrataLog := { g with samples := [] }

theorem issueSample_withoutSamples (annular : Option Nat) (s : State) (mark : Nat) :
    withoutSamples (issueSample annular s mark).log = withoutSamples s.log := by
  unfold issueSample
  simp only
  split <;> rfl

/-- R92: the issue of samples changes the register of the log, and nothing else of it. -/
theorem issueSamples_log (a b : Nat) (s : State) :
    (issueSamples a b s).log = { s.log with samples := (issueSamples a b s).log.samples } := by
  have hrest : withoutSamples (issueSamples a b s).log = withoutSamples s.log := by
    unfold issueSamples
    split
    · rfl
    · refine (foldl_keeps (fun s => withoutSamples s.log) _ (issueSample_withoutSamples _) _ _).trans ?_
      simp only [noteBelowProgram_frame]
  exact congrArg (fun g : StrataLog => { g with samples := (issueSamples a b s).log.samples }) hrest

theorem updateOpenLine_meter (k : LineKey) (f : Line → Line) (h : t.meter = s.meter) :
    (updateOpenLine k f t).meter = (updateOpenLine k f s).meter := by
  unfold updateOpenLine
  rw [h]
  split
  · simp
  · exact h

theorem accruePiece_meter (band : Band) (piece : Nat × Nat) (h : t.meter = s.meter) :
    (accruePiece band piece t).meter = (accruePiece band piece s).meter := by
  simp only [accruePiece, updateTotals, State.setMeter_meter, updateOpenLine_meter _ _ h]

theorem accrueFootage_meter (band : Band) (a b : Nat) (h : t.meter = s.meter) :
    (accrueFootage band a b t).meter = (accrueFootage band a b s).meter := by
  unfold accrueFootage
  induction tierPieces a b generalizing s t with
  | nil => exact h
  | cons piece pieces ih => exact ih (accruePiece_meter band piece h)

end

theorem handIncrement_eq (a b : Nat) (s : State) :
    handIncrement a b s = accrueFootage ((openInterval s.log).band.getD s.meter.card.defaultBand) a b
      (logIncrement a b (segmentEnds (s.job.start.getD 0) a b) (issueSamples a b s)) := by
  simp only [handIncrement, startDepth, issueSamples_frame]
  rfl

/-- The log after an increment: its own work, as if no sample had been issued, beside the register that the issue leaves. -/
theorem handIncrement_log (a b : Nat) (s : State) :
    (handIncrement a b s).log = { (logIncrement a b (segmentEnds (s.job.start.getD 0) a b) s).log with
      samples := (issueSamples a b s).log.samples } := by
  simp only [handIncrement_eq, accrueFootage_frame]
  exact logIncrement_log a b _ (issueSamples_log a b s)

/-- Settles O30: the segment ends by membership, the log's recursion by definition, and each block of the increment by what its
own work looks at (`handIncrement_log`, `accrueFootage_meter`). -/
theorem incrementReachesThreeBlocks : Obligations.IncrementReachesThreeBlocks := by
  refine ⟨fun start a b => segmentEnds_eq b, fun _ _ _ => rfl, fun _ _ _ _ _ => rfl, ?_⟩
  rintro a b s t rfl band ends
  refine ⟨handIncrement_eq a b s, ?meter, ?lag, ?_⟩
  case meter =>
    rw [handIncrement_eq]
    exact accrueFootage_meter band a b (by simp)
  case lag => simp [handIncrement_eq]
  simp only [handIncrement_log]
  simp [handIncrement_eq, ends]

end Sys2Proof.Machine

namespace Sys2Proof.Machine

/-! ### What `BitWithinHole` looks at -/

/-- The fields of a state that `BitWithinHole` looks at. -/
structure DepthView where
  block : Option Nat
  stringTop : Option Int
  bit : Option Nat
  hole : Option Nat
  jobOpen : Bool

def depthView (s : State) : DepthView :=
  ⟨s.depth.block, s.depth.stringTop, s.depth.bit, s.depth.hole, s.job.isOpen⟩

/-- R52, R53: what a depth computation needs of the state that it starts from: the bit depth before it may lie anywhere. -/
structure DepthReady (s : State) : Prop where
  top : s.depth.stringTop.isSome = s.depth.block.isSome
  stale : s.depth.stringTop = none → s.depth.bit = none
  hole : s.job.isOpen = true → s.depth.hole.isSome = true
  cap : ∀ h ∈ s.depth.hole, h ≤ Config.holeCap

section
variable {s t : State}

theorem bitWithinHole_congr (h : depthView t = depthView s) (hs : BitWithinHole s) : BitWithinHole t := by
  simp only [depthView, DepthView.mk.injEq] at h
  obtain ⟨hblock, htop, hbit, hhole, hjob⟩ := h
  simpa only [BitWithinHole, hblock, htop, hbit, hhole, hjob] using hs

theorem depthReady_of_bitWithinHole (hs : BitWithinHole s) : DepthReady s := by
  obtain ⟨htop, hbit, hjob, hcap⟩ := hs
  refine ⟨htop, fun hnone => ?_, fun h => (hjob h).1, hcap⟩
  have hblock : s.depth.block.isSome = false := by rw [← htop, hnone]; rfl
  simpa [hblock] using hbit

theorem depthReady_congr (h : depthView t = depthView s) (hs : DepthReady s) : DepthReady t := by
  simp only [depthView, DepthView.mk.injEq] at h
  obtain ⟨hblock, htop, hbit, hhole, hjob⟩ := h
  constructor
  · rw [htop, hblock]; exact hs.top
  · rw [htop, hbit]; exact hs.stale
  · rw [hjob, hhole]; exact hs.hole
  · rw [hhole]; exact hs.cap

/-! ### The depth computation puts the bit within the hole (R51 to R55) -/

/-- A computation with a string-top height leaves a bit depth: it is within the hole that it leaves, if that is within its cap and,
while a job is open, not above the bit. -/
theorem bitWithinHole_of_bit {z : Nat} {hole : Option Nat} (hs : DepthReady s) (htop : s.depth.stringTop.isSome = true)
    (ht : depthView t = { depthView s with bit := some z, hole := hole })
    (hjob : s.job.isOpen = true → ∃ h, hole = some h ∧ z ≤ h) (hcap : ∀ h ∈ hole, h ≤ Config.holeCap) :
    BitWithinHole t := by
  simp only [depthView, DepthView.mk.injEq] at ht
  obtain ⟨hblock, hstringTop, hbit, hhole, hopen⟩ := ht
  have hpresent : s.depth.block.isSome = true := hs.top ▸ htop
  refine ⟨by rw [hstringTop, hblock, hs.top], by rw [hbit, hblock, hpresent]; rfl, fun h => ?_, hhole ▸ hcap⟩
  obtain ⟨x, rfl, hle⟩ := hjob (hopen ▸ h)
  simp [hhole, hbit, hle]

/-- R55: the hole is not advanced beyond its cap. -/
theorem advancedHole_le_cap {raw hole : Nat} (h : hole ≤ Config.holeCap) : advancedHole raw hole ≤ Config.holeCap := by
  unfold advancedHole
  split
  · exact Nat.min_le_right _ _
  · exact h

theorem depthView_advanceHole (raw hole : Nat) (s : State) :
    depthView (advanceHole raw hole s) =
      { depthView s with bit := some (advancedHole raw hole), hole := some (advancedHole raw hole) } := by
  unfold advanceHole
  simp only
  split <;> split <;> simp [depthView]

theorem depthView_clampToHole (raw hole : Nat) (s : State) :
    depthView (clampToHole raw hole s) = { depthView s with bit := some hole } := by
  simp [clampToHole, depthView]

theorem holeStep_bitWithinHole (raw : Nat) (hs : DepthReady s) (htop : s.depth.stringTop.isSome = true) :
    BitWithinHole (holeStep raw s) := by
  cases hjob : s.job.isOpen with
  | false =>
    rw [holeStep_noJob hjob]
    exact bitWithinHole_of_bit hs htop rfl (by simp [hjob]) hs.cap
  | true =>
    obtain ⟨hole, hhole⟩ := Option.isSome_iff_exists.mp (hs.hole hjob)
    rw [holeStep_job hjob hhole]
    split
    next hwithin => exact bitWithinHole_of_bit hs htop rfl (fun _ => ⟨hole, hhole, hwithin⟩) hs.cap
    next =>
      split
      · refine bitWithinHole_of_bit hs htop (depthView_advanceHole ..) (fun _ => ⟨_, rfl, Nat.le_refl _⟩) fun h hh => ?_
        cases hh
        exact advancedHole_le_cap (hs.cap hole hhole)
      · exact bitWithinHole_of_bit hs htop (depthView_clampToHole ..) (fun _ => ⟨hole, hhole, Nat.le_refl _⟩) hs.cap

/-- R52, R53: whatever bit depth stood before, a depth computation leaves it within the hole. -/
theorem depthCompute_bitWithinHole (hs : DepthReady s) : BitWithinHole (depthCompute s) := by
  cases htop : s.depth.stringTop with
  | none =>
    have hsame : depthCompute s = s := depthComputationByRule.1 s htop
    have hbit := hs.stale htop
    have hblock : s.depth.block = none := by simpa [htop] using hs.top
    rw [hsame]
    exact ⟨hs.top, by rw [hbit, hblock], fun h => ⟨hs.hole h, by simp [hbit]⟩, hs.cap⟩
  | some top =>
    have hpresent : s.depth.stringTop.isSome = true := by rw [htop]; rfl
    rcases Int.lt_or_le ((lengthOfString s : Int) - top) 0 with habove | hbelow
    · rw [depthCompute_above htop rfl habove]
      refine bitWithinHole_of_bit hs hpresent rfl (fun h => ?_) hs.cap
      obtain ⟨hole, hhole⟩ := Option.isSome_iff_exists.mp (hs.hole h)
      exact ⟨hole, hhole, Nat.zero_le _⟩
    · rw [depthCompute_below (raw := ((lengthOfString s : Int) - top).toNat) htop (by omega)]
      exact holeStep_bitWithinHole _ (depthReady_congr (s := s) rfl hs) hpresent

/-! ### Answers, moves and the events of the part leave the depths or compute them -/

theorem keptByAnswer_bitWithinHole : KeptByAnswer BitWithinHole where
  reply _ _ _ _ _ := bitWithinHole_congr (by rfl)
  wakes _ _ := bitWithinHole_congr (by simp [depthView])
  zeros _ _ := bitWithinHole_congr (by rfl)

@[simp] theorem depthView_recheck (s : State) : depthView (recheck s) = depthView s := by simp [depthView]

theorem depthView_refuseMove (code : Nat) (c : ReplyCode) (s : State) :
    depthView (refuseMove code c s).state = depthView s := by
  unfold refuseMove
  split <;> simp [depthView]

/-- R60, R193: of the depth unit and the job, a second changes the activity and the clock. -/
theorem depthView_secondPasses (pins : SensePins) (s : State) : depthView (secondPasses pins s) = depthView s := by
  have hjob : (secondPasses pins s).job.isOpen = s.job.isOpen := by
    simp [secondPasses_eq, clockSecond_eq, jobSecond_job]
  simp only [depthView, secondPasses_depth, hjob]

/-- R23, R47: a depth computation made after a change that leaves it what it needs, and the re-check of R173 after it. -/
theorem recheck_depthCompute_bitWithinHole (hs : DepthReady s) : BitWithinHole (recheck (depthCompute s)) :=
  bitWithinHole_congr (depthView_recheck _) (depthCompute_bitWithinHole hs)

/-- R48: the string-top height moved stays present, or absent. -/
theorem moveStringTop_depthReady (d : Int) (hs : DepthReady s) : DepthReady (moveStringTop d s) where
  top := by simpa [moveStringTop] using hs.top
  stale := by simpa [moveStringTop] using hs.stale
  hole := hs.hole
  cap := hs.cap

theorem setSlipsTaken_bitWithinHole (hs : BitWithinHole s) : BitWithinHole (setSlipsTaken s) :=
  recheck_depthCompute_bitWithinHole (depthReady_congr (s := s) rfl (depthReady_of_bitWithinHole hs))

/-- R26, R47: the string-top height taken from the block height is present with it. -/
theorem releaseSlipsTaken_bitWithinHole (hs : BitWithinHole s) : BitWithinHole (releaseSlipsTaken s) := by
  obtain ⟨-, hbit, hjob, hcap⟩ := hs
  refine recheck_depthCompute_bitWithinHole ⟨by simp, fun hnone => ?_, fun h => (hjob h).1, hcap⟩
  have hblock : s.depth.block = none := by simpa using hnone
  simpa [hblock] using hbit

theorem breakJointTaken_bitWithinHole (hs : BitWithinHole s) : BitWithinHole (breakJointTaken s) :=
  recheck_depthCompute_bitWithinHole
    (moveStringTop_depthReady _ (depthReady_congr (s := s) rfl (depthReady_of_bitWithinHole hs)))

theorem resolveToString_bitWithinHole (hs : BitWithinHole s) : BitWithinHole (resolveToString s) :=
  recheck_depthCompute_bitWithinHole
    (moveStringTop_depthReady _ (depthReady_congr (s := s) rfl (depthReady_of_bitWithinHole hs)))

theorem makeJointTaken_bitWithinHole (hs : BitWithinHole s) : BitWithinHole (makeJointTaken s) := by
  have hjoined := moveStringTop_depthReady (rodLength s.rack.rods (heldSerial s) : Int)
    (depthReady_congr (t := moveTo { s.tally with
      stack := s.tally.stack ++ [heldSerial s], handling := none, state := .inSlipsLatched, stab := none } s) rfl
      (depthReady_of_bitWithinHole hs))
  exact bitWithinHole_congr (by simp [depthView, makeJointTaken]) (depthCompute_bitWithinHole hjoined)

theorem resolveTaken_bitWithinHole (destination slot : Nat) (hs : BitWithinHole s) :
    BitWithinHole (resolveTaken destination slot s) := by
  unfold resolveTaken
  split
  · exact resolveToString_bitWithinHole hs
  · exact bitWithinHole_congr (by simp [depthView, rackHeldRod]) hs
  · exact bitWithinHole_congr (by simp [depthView, layOutHeldRod]) hs

/-- R45, R49: a block height brings a string-top height with it. -/
theorem blockTaken_bitWithinHole (height : Nat) (rotation : Bool) (hs : BitWithinHole s) :
    BitWithinHole (blockTaken height rotation s) := by
  have htop : (if s.depth.stringTop.isNone || following s.tally then some (height : Int)
      else s.depth.stringTop).isSome = true := by
    cases s.depth.stringTop <;> cases following s.tally <;> rfl
  obtain ⟨-, -, hjob, hcap⟩ := hs
  exact depthCompute_bitWithinHole
    ⟨htop, fun hnone => absurd hnone (Option.isSome_iff_ne_none.mp htop), fun h => (hjob h).1, hcap⟩

/-! #### OPEN JOB and CLOSE JOB (R194, R195) -/

/-- R52, R194: the hole of a new job starts at its start depth, and the bit is put within it by the computation. -/
theorem openJobTaken_bitWithinHole (number interval : Nat) {start : Nat} (hs : BitWithinHole s)
    (hstart : start ≤ Config.holeCap) : BitWithinHole (openJobTaken number start interval s) := by
  have hready := depthReady_of_bitWithinHole hs
  exact depthCompute_bitWithinHole ⟨hready.top, hready.stale, fun _ => rfl, by simpa using hstart⟩

/-- R195: with no job open, the bit may lie anywhere. -/
theorem closeJobTaken_bitWithinHole (reference : Nat) (hs : BitWithinHole s) :
    BitWithinHole (closeJobTaken reference s) := by
  obtain ⟨htop, hbit, -, hcap⟩ := hs
  simpa [BitWithinHole, closeJobTaken] using ⟨htop, hbit, hcap⟩

/-! #### Power (R44, R196 to R198) -/

/-- R44, R196: of the depths, the hole alone is retained. -/
theorem volatileReset_bitWithinHole (hs : BitWithinHole s) : BitWithinHole (volatileReset s) := by
  obtain ⟨-, -, hjob, hcap⟩ := hs
  exact ⟨rfl, rfl, fun h => ⟨(hjob h).1, by simp [volatileReset, blankDepth]⟩, hcap⟩

theorem depthView_chooseMode (s : State) : depthView (chooseMode s) = depthView s := by
  unfold chooseMode
  simp only
  split <;> rfl

theorem depthView_countPowerEvent (s : State) : depthView (countPowerEvent s) = depthView s := by
  rw [countPowerEvent_eq]
  rfl

theorem depthView_checkTally (s : State) : depthView (checkTally s) = depthView s := by
  unfold checkTally
  split <;> rfl

theorem powerUp_bitWithinHole (valid : Bool) (hs : BitWithinHole s) : BitWithinHole (powerUp valid s) := by
  cases valid with
  | false =>
    obtain ⟨-, -, hreset, -⟩ := resetMeetsInvariants
    exact bitWithinHole_congr (s := State.reset) rfl hreset
  | true =>
    refine bitWithinHole_congr ?_ (volatileReset_bitWithinHole hs)
    calc depthView (powerUp true s)
      _ = depthView (checkTally (countPowerEvent (chooseMode (volatileReset s)))) := rfl
      _ = depthView (volatileReset s) := by
        rw [depthView_checkTally, depthView_countPowerEvent, depthView_chooseMode]

theorem execPowerOn_bitWithinHole {valid : Bool} (hs : BitWithinHole s) (h : execPowerOn valid s = .next t) :
    BitWithinHole t := by
  unfold execPowerOn at h
  split at h <;> cases h
  · exact powerUp_bitWithinHole valid hs
  · exact powerUp_bitWithinHole valid hs
  · exact bitWithinHole_congr rfl (volatileReset_bitWithinHole hs)
  · exact bitWithinHole_congr rfl (volatileReset_bitWithinHole hs)

theorem execResetAsserted_depthView (h : execResetAsserted s = .next t) : depthView t = depthView s := by
  unfold execResetAsserted at h
  split at h <;> cases h <;> rfl

theorem execResetReleased_bitWithinHole {valid : Bool} (hs : BitWithinHole s) (h : execResetReleased valid s = .next t) :
    BitWithinHole t := by
  unfold execResetReleased at h
  split at h <;> cases h
  · exact powerUp_bitWithinHole valid hs
  · exact bitWithinHole_congr rfl hs
  · exact hs
  · exact hs

theorem execReadTransaction_depthView {p : Port} {clocked : Nat} (h : execReadTransaction p clocked s = .next t) :
    depthView t = depthView s := by
  unfold execReadTransaction at h
  split at h <;> cases h <;> rfl

/-! ### Every command keeps the bit within the hole (R52, R53, R55) -/

section
variable {p : Port} {code : Nat} {checks : State → List (Bool × ReplyCode)}

/-- A checked request whose effect touches none of the depths. -/
theorem request_depthView {r : State → Response} (h : request p code (fun s => checked (checks s) s (r s)) s = .next t)
    (hs : BitWithinHole s) (hr : depthView (r s).state = depthView s) : BitWithinHole t :=
  request_checked_keeps keptByAnswer_bitWithinHole h hs fun _ => bitWithinHole_congr hr hs

/-- A move whose effect leaves the bit within the hole: its refusals touch none of the depths. -/
theorem moveRequest_bitWithinHole {effect : State → State} (h : moveRequest p code checks effect s = .next t)
    (hs : BitWithinHole s) (he : BitWithinHole (effect s)) : BitWithinHole t :=
  moveRequest_keeps keptByAnswer_bitWithinHole h hs (fun c => bitWithinHole_congr (depthView_refuseMove code c s) hs)
    fun _ => he

theorem execReleaseSlips_bitWithinHole {pins : SensePins} (hs : BitWithinHole s)
    (h : execReleaseSlips p pins s = .next t) : BitWithinHole t := by
  have hsensed : BitWithinHole (sensePermits pins s) := bitWithinHole_congr rfl hs
  refine writeTransaction_keeps keptByAnswer_bitWithinHole h hs (respond_keeps keptByAnswer_bitWithinHole ?_)
  exact judgedMove_keeps (fun c => bitWithinHole_congr (depthView_refuseMove _ c _) hsensed)
    fun _ => releaseSlipsTaken_bitWithinHole hsensed

theorem execReadTally_bitWithinHole {pins : SensePins} (hs : BitWithinHole s) (h : execReadTally p pins s = .next t) :
    BitWithinHole t :=
  writeTransaction_keeps keptByAnswer_bitWithinHole h hs
    (respond_keeps keptByAnswer_bitWithinHole (bitWithinHole_congr (s := s) rfl hs))

theorem execBadFrame_bitWithinHole (hs : BitWithinHole s) (h : execBadFrame p code s = .next t) : BitWithinHole t :=
  writeTransaction_keeps keptByAnswer_bitWithinHole h hs (bitWithinHole_congr (by rfl) hs)

theorem execUnknownRequest_bitWithinHole (hs : BitWithinHole s) (h : execUnknownRequest p code s = .next t) :
    BitWithinHole t :=
  writeTransaction_keeps keptByAnswer_bitWithinHole h hs (bitWithinHole_congr (by rfl) hs)

theorem execOpenJob_bitWithinHole {number start interval : Nat} (hs : BitWithinHole s)
    (h : execOpenJob p number start interval s = .next t) : BitWithinHole t := by
  refine request_checked_keeps keptByAnswer_bitWithinHole h hs fun hpass => ?_
  simp only [firstFailing_eq_none_iff, List.forall_mem_cons] at hpass
  obtain ⟨-, -, hrange, -⟩ := hpass
  simp only [openJobOutOfRange, Bool.or_eq_false_iff, decide_eq_false_iff_not] at hrange
  obtain ⟨⟨-, hstart⟩, -⟩ := hrange
  exact openJobTaken_bitWithinHole number interval hs (by simp only [Config.holeCap]; omega)

theorem execEnterStandby_bitWithinHole (hs : BitWithinHole s) (h : execEnterStandby p s = .next t) :
    BitWithinHole t := by
  refine request_keeps keptByAnswer_bitWithinHole h hs ?_
  split
  · exact hs
  · split <;> exact bitWithinHole_congr (by simp [depthView]) hs

end

theorem exec_bitWithinHole (c : Instr) (hs : BitWithinHole s) (h : exec c s = .next t) : BitWithinHole t := by
  cases c with
  | setBha =>
    refine request_checked_keeps keptByAnswer_bitWithinHole h hs fun _ => depthCompute_bitWithinHole ?_
    exact depthReady_congr (s := s) rfl (depthReady_of_bitWithinHole hs)
  | setSlips => exact moveRequest_bitWithinHole h hs (setSlipsTaken_bitWithinHole hs)
  | releaseSlips => exact execReleaseSlips_bitWithinHole hs h
  | breakJoint => exact moveRequest_bitWithinHole h hs (breakJointTaken_bitWithinHole hs)
  | makeJoint => exact moveRequest_bitWithinHole h hs (makeJointTaken_bitWithinHole hs)
  | resolveRod => exact moveRequest_bitWithinHole h hs (resolveTaken_bitWithinHole _ _ hs)
  | unlatch | latch | pickRod | stab | rackRod | layOutRod =>
    refine moveRequest_bitWithinHole h hs (bitWithinHole_congr ?_ hs)
    simp [depthView, pickRodTaken, rackHeldRod, layOutHeldRod]
  | block =>
    exact request_checked_keeps keptByAnswer_bitWithinHole h hs fun _ => blockTaken_bitWithinHole _ _ hs
  | openJob => exact execOpenJob_bitWithinHole hs h
  | closeJob => exact request_checked_keeps keptByAnswer_bitWithinHole h hs fun _ => closeJobTaken_bitWithinHole _ hs
  | deviceSecond => exact whileRunning_keeps h hs (bitWithinHole_congr (depthView_secondPasses _ s) hs)
  | makeupExpired | circStale | permitFault | pendingModeTaken | sampleArrival =>
    exact whileRunning_keeps h hs (bitWithinHole_congr (by simp [depthView]) hs)
  | powerOn => exact execPowerOn_bitWithinHole hs h
  | resetAsserted => exact bitWithinHole_congr (execResetAsserted_depthView h) hs
  | resetReleased => exact execResetReleased_bitWithinHole hs h
  | powerLoss => cases h; exact bitWithinHole_congr rfl (volatileReset_bitWithinHole hs)
  | readTransaction => exact bitWithinHole_congr (execReadTransaction_depthView h) hs
  | readTally => exact execReadTally_bitWithinHole hs h
  | badFrame => exact execBadFrame_bitWithinHole hs h
  | unknownRequest => exact execUnknownRequest_bitWithinHole hs h
  | portReset | readNotice | readSummary =>
    exact request_keeps keptByAnswer_bitWithinHole h hs (bitWithinHole_congr (s := s) (by simp [depthView]) hs)
  | readRod | readRodList | readSlot | readLaidOutList | readWearLimits | readStack | readBha | readMakeupLimits
  | readDepth | readCirculation | readChannel | readPumps | readCasingProgram | readAnnulus | readLagQueue | readLog
  | readInterval | readIntervalAtDepth | readSamples | readTicket | readRateCard | readJobTotals | readNoticeStatus
  | readNoticeLevels | readMode | readPortStatus | readJob => exact readRequest_keeps keptByAnswer_bitWithinHole h hs
  | rackSense =>
    refine request_depthView h hs ?_
    exact foldl_keeps depthView (fun s n => raise .rackDiscrepancy n 0 s) (fun _ _ => rfl) _ _
  | enterSetup | enterRun => exact request_depthView h hs (by split <;> simp [depthView, refuseIncomplete])
  | enterStandby => exact execEnterStandby_bitWithinHole hs h
  | registerRod | deleteRod | restoreRod | setWearLimits | setSlotSensing | setMakeupLimits | downStart | downEnd
  | setPump | setCirculationLimits | circulation | additive | setCasingProgram | sampleCaught | setDrillBreak | reArm
  | classify | confirm | merge | split | waterStrike | clearWaterStrike | setBandRates | setTierMultipliers
  | setHourlyRates | setAdditivePrices | closeTicket | acknowledgeTicket | setNoticeLevels | setNoticeFilter
  | enterWatch | cancelMode | setWakeTable =>
    exact request_depthView h hs (by simp [depthView, registerRodTaken, restoreRodTaken])

end

/-- Settles O7: the commands that move the string, the block or the hole end in a depth computation, which puts the bit within the
hole whatever stood before (`depthCompute_bitWithinHole`); CLOSE JOB lifts the bound, power coming and going leaves the bit STALE, and
the others touch none of the depths. -/
theorem stepKeepsBitWithinHole : Obligations.StepKeepsBitWithinHole := fun s t hs h =>
  step_keeps BitWithinHole (fun _ _ h => h) (fun c _ _ hs h => exec_bitWithinHole c hs h) s t hs h

end Sys2Proof.Machine

namespace Sys2Proof.Machine

/-! ### SET PUMP, SET CIRCULATION LIMITS and SET CASING PROGRAM (R63, R64, R87) -/

theorem onlyFrom_mud (p : Port) : (!([Port.mud].contains p)) = true ↔ p ≠ .mud := by simp

theorem onlyFrom_record (p : Port) : (!([Port.record].contains p)) = true ↔ p ≠ .record := by simp

/-- R63: the ranges of the fields of a pump record. -/
theorem pumpFields_refused (pump displacement efficiency maxRate : Nat) :
    ((inRange 1 2 pump).isNone || !displacementOk displacement || (inRange 500 1000 efficiency).isNone ||
      (inRange 10 200 maxRate).isNone) = true ↔
    ¬ ((pump = 1 ∨ pump = 2) ∧ (displacement = 0 ∨ 1000 ≤ displacement ∧ displacement ≤ 40000) ∧
      500 ≤ efficiency ∧ efficiency ≤ 1000 ∧ 10 ≤ maxRate ∧ maxRate ≤ 200) := by
  have hdisplacement : displacementOk displacement = true ↔
      displacement = 0 ∨ 1000 ≤ displacement ∧ displacement ≤ 40000 := by
    rw [displacementOk, Bool.or_eq_true, beq_iff_eq, ← Option.not_isNone, Bool.not_eq_true', inRange_isNone_eq_false]
  rw [Bool.or_eq_true, Bool.or_eq_true, Bool.or_eq_true, Bool.not_eq_true', ← Bool.not_eq_true, hdisplacement]
  simp only [inRange_isNone]
  omega

/-- R87: the fields of a section that a SET CASING PROGRAM request may carry. -/
abbrev SectionTaken (c : SectionField) : Prop :=
  1 ≤ c.base ∧ c.base ≤ 1600000 ∧ 50 ≤ c.bore ∧ c.bore ≤ 700 ∧ c.kind ≤ 1

/-- The section that taken fields make. -/
def sectionMade (c : SectionField) : Section :=
  { base := c.base, bore := c.bore, kind := if c.kind = 0 then .cased else .openHole }

theorem sectionKindOf_eq (v : Nat) :
    sectionKindOf v = if v ≤ 1 then some (if v = 0 then .cased else .openHole) else none := by
  match v with
  | 0 | 1 => rfl
  | n + 2 => simp [sectionKindOf]

theorem sectionOf_eq (above : Nat) (c : SectionField) :
    sectionOf above c = if SectionTaken c ∧ above < c.base then some (sectionMade c) else none := by
  unfold sectionOf inRange
  rw [sectionKindOf_eq]
  by_cases hbase : 1 ≤ c.base ∧ c.base ≤ 1600000
  · by_cases hbore : 50 ≤ c.bore ∧ c.bore ≤ 700
    · by_cases hkind : c.kind ≤ 1 <;> simp [SectionTaken, hbase, hbore, hkind, sectionMade]
    · have hno : ¬ (SectionTaken c ∧ above < c.base) := by
        rintro ⟨⟨-, -, hmin, hmax, -⟩, -⟩
        exact hbore ⟨hmin, hmax⟩
      simp [hbase, hbore, hno]
  · have hno : ¬ (SectionTaken c ∧ above < c.base) := by
      rintro ⟨⟨hmin, hmax, -⟩, -⟩
      exact hbase ⟨hmin, hmax⟩
    simp [hbase, hno]

/-- Of ascending numbers, the first two and the rest. -/
theorem pairwise_lt_cons_cons (a b : Nat) (l : List Nat) :
    (a :: b :: l).Pairwise (· < ·) ↔ a < b ∧ (b :: l).Pairwise (· < ·) := by
  rw [List.pairwise_cons, List.forall_mem_cons, and_assoc]
  refine and_congr_right fun hab => and_iff_right_of_imp fun hpairs c hc => ?_
  exact Nat.lt_trans hab (List.rel_of_pairwise_cons hpairs hc)

/-- R87: the sections are taken where each is within its ranges and each base is greater than the one above. -/
theorem sectionsFrom_eq (above : Nat) (cs : List SectionField) :
    sectionsFrom above cs =
      if (∀ c ∈ cs, SectionTaken c) ∧ (above :: cs.map SectionField.base).Pairwise (· < ·) then
        some (cs.map sectionMade)
      else none := by
  induction cs generalizing above with
  | nil => simp [sectionsFrom]
  | cons c cs ih =>
    rw [sectionsFrom, sectionOf_eq, ih]
    simp only [List.forall_mem_cons, List.map_cons, pairwise_lt_cons_cons]
    by_cases hc : SectionTaken c ∧ above < c.base
    · by_cases hcs : (∀ c ∈ cs, SectionTaken c) ∧ (c.base :: cs.map SectionField.base).Pairwise (· < ·)
      · rw [if_pos hc, if_pos hcs, if_pos ⟨⟨hc.1, hcs.1⟩, hc.2, hcs.2⟩]
      · rw [if_pos hc, if_neg hcs, if_neg fun h => hcs ⟨h.1.2, h.2.2⟩]
    · have hno : ¬ ((SectionTaken c ∧ ∀ c ∈ cs, SectionTaken c) ∧ above < c.base ∧
          (c.base :: cs.map SectionField.base).Pairwise (· < ·)) := fun h => hc ⟨h.1.1, h.2.1⟩
      rw [if_neg hc, if_neg hno]

/-- R87: what a SET CASING PROGRAM request may not carry. -/
abbrev SectionsRefused (cs : List SectionField) : Prop :=
  cs.length = 0 ∨ 6 < cs.length ∨ (∃ c ∈ cs, ¬ SectionTaken c) ∨ ¬ (cs.map SectionField.base).Pairwise (· < ·)

/-- R87: a first base of 1 or more lies below the table, so the ascending bases may start at 0. -/
theorem pairwise_zero_bases {cs : List SectionField} (h : ∀ c ∈ cs, SectionTaken c) :
    (0 :: cs.map SectionField.base).Pairwise (· < ·) ↔ (cs.map SectionField.base).Pairwise (· < ·) := by
  rw [List.pairwise_cons]
  refine and_iff_right fun base hbase => ?_
  obtain ⟨c, hc, rfl⟩ := List.mem_map.mp hbase
  exact (h c hc).1

theorem sectionsRefused_iff {cs : List SectionField} (hlength : ¬ (cs.length = 0 ∨ 6 < cs.length)) :
    SectionsRefused cs ↔
      ¬ ((∀ c ∈ cs, SectionTaken c) ∧ (0 :: cs.map SectionField.base).Pairwise (· < ·)) := by
  rw [SectionsRefused, ← or_assoc, or_iff_right hlength]
  by_cases hcs : ∀ c ∈ cs, SectionTaken c
  · rw [and_iff_right hcs, pairwise_zero_bases hcs, or_iff_right]
    rintro ⟨c, hc, hno⟩
    exact hno (hcs c hc)
  · have hbad : ∃ c ∈ cs, ¬ SectionTaken c := by simpa only [Classical.not_forall, exists_prop] using hcs
    exact iff_of_true (.inl hbad) fun h => hcs h.1

theorem programGiven_eq (cs : List SectionField) :
    programGiven cs = if SectionsRefused cs then none else some (cs.map sectionMade) := by
  unfold programGiven
  by_cases hlength : cs.length = 0 ∨ 6 < cs.length
  · rw [if_pos hlength, if_pos (or_assoc.mp (.inl hlength))]
  · rw [if_neg hlength, sectionsFrom_eq, ← ite_not]
    exact ite_congr (propext (sectionsRefused_iff hlength).symm) (fun _ => rfl) fun _ => rfl

theorem programGiven_isNone (cs : List SectionField) : (programGiven cs).isNone = true ↔ SectionsRefused cs := by
  rw [programGiven_eq]
  split <;> simp [*]

/-- Settles O34: the checks of R63, R64 and R87 one by one, and then what each stores. -/
theorem circulationAndCasingConfiguration : Obligations.CirculationAndCasingConfiguration := by
  refine ⟨fun p pump displacement efficiency maxRate s h => request_eq h ?_,
    fun p loss gain flowOutMax pitStep s h => request_eq h ?_, fun p sections s h => request_eq h ?_⟩
  · refine settledBy_check (onlyFrom_mud p) fun _ => ?_
    refine settledBy_check (onlyInSetup_iff s) fun _ => ?_
    refine settledBy_check (pumpFields_refused pump displacement efficiency maxRate) fun _ => ?_
    exact settledBy_taken ..
  · refine settledBy_check (onlyFrom_mud p) fun _ => ?_
    refine settledBy_check (onlyInSetup_iff s) fun _ => ?_
    refine settledBy_check (by simp only [Bool.or_eq_true, inRange_isNone]; omega) fun _ => ?_
    exact settledBy_taken ..
  · refine settledBy_check (onlyFrom_record p) fun _ => ?_
    refine settledBy_check (onlyInSetup_iff s) fun _ => ?_
    refine settledBy_check (programGiven_isNone sections) fun htaken => ?_
    have hgiven : programGiven sections = some (sections.map sectionMade) :=
      (programGiven_eq sections).trans (if_neg htaken)
    rw [hgiven]
    exact settledBy_taken ..

end Sys2Proof.Machine

namespace Sys2Proof.Machine

/-! ### ADDITIVE (R83, R136) -/

/-- R133, R136, R146: the line of the item on the open ticket and the units of the item in the job totals. -/
theorem accrueAdditive_eq (item units : Nat) (s : State) :
    accrueAdditive item units s = { s with meter := { s.meter with
      openTicket := s.meter.openTicket.map fun t =>
        { t with lines := updateLine (.additive item) (addSaturating units) t.lines },
      totals := { s.meter.totals with
        units := s.meter.totals.units.set item (satAdd Config.max32 (s.meter.totals.units.getD item 0) units) } } } := by
  unfold accrueAdditive updateOpenLine
  cases hticket : s.meter.openTicket with
  | none => simp [updateTotals, State.setMeter, modifyAt, hticket]
  | some t => simp [updateTotals, State.setMeter, modifyAt]

/-- Settles O39: the checks of R83 one by one, and then the line and the total. -/
theorem additiveOnTicketAndTotals : Obligations.AdditiveOnTicketAndTotals := by
  intro p item units s h added total
  refine request_eq h ?_
  refine settledBy_check (onlyFrom_mud p) fun _ => ?_
  refine settledBy_check (by simp) fun _ => ?_
  refine settledBy_check (by simp only [Bool.or_eq_true, decide_eq_true_eq, inRange_isNone]; omega) fun _ => ?_
  refine settledBy_check (by simp) fun _ => ?_
  rw [accrueAdditive_eq]
  exact settledBy_taken ..

end Sys2Proof.Machine

namespace Sys2Proof.Machine

/-! ### The balance and its alarms (R75, R76, R77) -/

theorem valueUsed_trusted {x : Channel} (h : x.state ≠ .rejected) (value : Nat) : valueUsed x value = value := if_neg h

/-- R57: the bit depth given looks at the depth unit and the job. -/
theorem bitDepthGiven_congr {s t : State} (hdepth : t.depth = s.depth) (hjob : t.job = s.job) :
    bitDepthGiven t = bitDepthGiven s := by simp only [bitDepthGiven, hdepth, hjob]

@[simp] theorem clearLoss_bitDepthGiven (s : State) : bitDepthGiven (clearLoss s) = bitDepthGiven s :=
  bitDepthGiven_congr (by simp) (by simp)

@[simp] theorem clearGain_bitDepthGiven (s : State) : bitDepthGiven (clearGain s) = bitDepthGiven s :=
  bitDepthGiven_congr (by simp) (by simp)

theorem clearLoss_clear {s : State} (h : s.circ.loss = false) : clearLoss s = s := by simp [clearLoss, h]

theorem clearGain_clear {s : State} (h : s.circ.gain = false) : clearGain s = s := by simp [clearGain, h]

theorem clearLoss_set {s : State} (h : s.circ.loss = true) :
    clearLoss s = raise .loss 0 (bitDepthGiven s) { s with circ := { s.circ with loss := false } } := by
  rw [clearLoss, if_pos h]
  rfl

theorem clearGain_set {s : State} (h : s.circ.gain = true) :
    clearGain s = raise .gain 0 (bitDepthGiven s) { s with circ := { s.circ with gain := false } } := by
  rw [clearGain, if_pos h]
  rfl

@[simp] theorem clearLoss_circ (s : State) : (clearLoss s).circ = { s.circ with loss := false } := by
  cases h : s.circ.loss with
  | false => rw [clearLoss_clear h, ← h]
  | true => simp [clearLoss_set h]

@[simp] theorem clearGain_circ (s : State) : (clearGain s).circ = { s.circ with gain := false } := by
  cases h : s.circ.gain with
  | false => rw [clearGain_clear h, ← h]
  | true => simp [clearGain_set h]

/-- R77: LOSS set, GAIN being cleared first. -/
def setLoss (s : State) : State :=
  raise .loss 1 (bitDepthGiven s) ((clearGain s).setCirc { (clearGain s).circ with loss := true })

/-- R77: GAIN set, LOSS being cleared first. -/
def setGain (s : State) : State :=
  raise .gain 1 (bitDepthGiven s) ((clearLoss s).setCirc { (clearLoss s).circ with gain := true })

@[simp] theorem setLoss_circ (s : State) : (setLoss s).circ = { s.circ with loss := true, gain := false } := by
  simp [setLoss]

@[simp] theorem setGain_circ (s : State) : (setGain s).circ = { s.circ with loss := false, gain := true } := by
  simp [setGain]

/-- R77: what the streaks do to the alarms: one alarm set, both cleared, or nothing. -/
theorem updateAlarms_eq (s : State) :
    updateAlarms s =
      if s.circ.lossStreak = 16 ∧ s.circ.loss = false then setLoss s
      else if s.circ.gainStreak = 16 ∧ s.circ.gain = false then setGain s
      else if s.circ.balancedStreak = 16 then clearGain (clearLoss s)
      else s := by
  simp only [updateAlarms, setLoss, setGain, clearLoss_bitDepthGiven, clearGain_bitDepthGiven]

/-- Settles O37: each alarm by the branch of `updateAlarms_eq` that its streak takes. -/
theorem balanceStreaksAndAlarms : Obligations.BalanceStreaksAndAlarms := by
  refine ⟨fun c flowOut pit e => ⟨fun hout => ?_, fun hout hpit => ?_, fun hout hpit => ?_⟩, fun _ => rfl, fun _ _ => rfl,
    fun s => ⟨fun hstreak hloss => ?lossSet, fun hloss hstreak hgain => ?gainSet,
      fun hloss hgain hstreak => ⟨fun hset hclear => ?lossCleared, fun hclear hset => ?gainCleared,
        fun hnoLoss hnoGain => ?balanced⟩, fun hloss hgain hbalanced => ?none,
      fun hstreak hset hgain hbalanced => ?lossHeld, fun hstreak hset hloss hbalanced => ?gainHeld⟩⟩
  · simp [flowOutChosen, hout, valueUsed_trusted]
  · simp [flowOutChosen, hout, hpit]
  · simp [flowOutChosen, hout, hpit, valueUsed_trusted]
  case lossSet =>
    rw [updateAlarms_eq, if_pos ⟨hstreak, hloss⟩, setLoss]
    cases hgain : s.circ.gain with
    | false => rw [clearGain_clear hgain]; rfl
    | true => rw [clearGain_set hgain]; rfl
  case gainSet =>
    rw [updateAlarms_eq, if_neg (by simp [hloss]), if_pos ⟨hstreak, hgain⟩, setGain]
    cases hset : s.circ.loss with
    | false => rw [clearLoss_clear hset]; rfl
    | true => rw [clearLoss_set hset]; rfl
  case lossCleared =>
    rw [updateAlarms_eq, if_neg (by simp [hloss]), if_neg (by simp [hgain]), if_pos hstreak,
      clearGain_clear (by simpa using hclear), clearLoss_set hset]
  case gainCleared =>
    rw [updateAlarms_eq, if_neg (by simp [hloss]), if_neg (by simp [hgain]), if_pos hstreak, clearLoss_clear hclear,
      clearGain_set hset]
  case balanced =>
    rw [updateAlarms_eq, if_neg (by simp [hloss]), if_neg (by simp [hgain]), if_pos hstreak, clearLoss_clear hnoLoss,
      clearGain_clear hnoGain]
  case none => simp [updateAlarms_eq, hloss, hgain, hbalanced]
  case lossHeld => simp [updateAlarms_eq, hset, hgain, hbalanced]
  case gainHeld => simp [updateAlarms_eq, hset, hloss, hbalanced]

end Sys2Proof.Machine

namespace Sys2Proof.Machine

/-! ### What a report tells the strata log (R78, R79, R122, R124) -/

/-- An entry of a list changed is that entry replaced. -/
theorem modify_eq_set_of_getElem? {α : Type} {l : List α} {n : Nat} {x : α} (hx : l[n]? = some x) (f : α → α) :
    l.modify n f = l.set n (f x) := by
  refine List.ext_getElem? fun m => ?_
  rw [List.getElem?_modify, List.getElem?_set']
  by_cases hm : n = m
  · subst hm
    simp [hx]
  · simp [hm]

/-- An interval that the log holds, changed. -/
theorem modifyInterval_eq {g : StrataLog} {n : Nat} {x : Interval} (hx : g.intervals[n]? = some x)
    (f : Interval → Interval) : modifyInterval n f g = { g with intervals := g.intervals.set n (f x) } := by
  rw [modifyInterval, modify_eq_set_of_getElem? hx]

theorem intervalAt_eq {g : StrataLog} {n : Nat} {x : Interval} (hx : g.intervals[n]? = some x) : intervalAt g n = x := by
  simp [intervalAt, hx]

section
variable {s : State} {z : Nat} {x : Interval}

/-- R122: the lost volume on the interval at a depth. -/
theorem chargeLoss_eq (v : Nat) (hx : s.log.intervals[indexAt s.log.intervals z]? = some x) :
    chargeLoss v z s = { s with log := { s.log with
      intervals := s.log.intervals.set (indexAt s.log.intervals z)
        { x with lossVolume := min 4294967295 (x.lossVolume + v) } } } := by
  rw [chargeLoss, modifyInterval_eq hx]
  rfl

/-- R122: no lost volume leaves a counter that is within its range as it is. -/
theorem chargeLoss_zero (hx : s.log.intervals[indexAt s.log.intervals z]? = some x) (hmax : x.lossVolume ≤ 4294967295) :
    chargeLoss 0 z s = s := by
  rw [chargeLoss_eq 0 hx, Nat.add_zero, Nat.min_eq_right hmax]
  obtain ⟨hn, rfl⟩ := List.getElem?_eq_some_iff.mp hx
  rw [List.set_getElem_self]

/-- R124: an interval takes a proposal unless it holds a REPORTED strike. -/
theorem takesProposal_eq (x : Interval) : takesProposal x = !x.strike.any fun w => w.source == .reported := by
  unfold takesProposal
  split
  next w hw => rw [hw]; cases w with | mk depth yieldRate source => cases source <;> rfl
  next hnone => rw [hnone]; rfl

/-- R124: the proposal on the interval at a depth. -/
theorem proposeStrike_eq (hx : s.log.intervals[indexAt s.log.intervals z]? = some x) :
    proposeStrike z s =
      if (x.strike.any fun w => w.source == .reported) = true then s
      else raise .waterStrikeProposed (indexAt s.log.intervals z) z { s with log := { s.log with
        intervals := s.log.intervals.set (indexAt s.log.intervals z)
          { x with strike := some { depth := z, yieldRate := none, source := .gain } } } } := by
  simp only [proposeStrike, intervalAt_eq hx, takesProposal_eq, modifyInterval_eq hx]
  cases x.strike.any fun w => w.source == .reported <;> rfl

end

theorem tellStrata_noJob {s : State} (h : s.job.isOpen = false) (d : Option Int) (e : Nat) (gainSet : Bool) :
    tellStrata d e gainSet s = s := by simp [tellStrata, h]

/-- R78: a report that has not set GAIN, while a job is open. -/
theorem tellStrata_noGain {s : State} (h : s.job.isOpen = true) (d : Option Int) (e : Nat) :
    tellStrata d e false s =
      if s.circ.loss = true ∧ lostVolume d e ≠ 0 then chargeLoss (lostVolume d e) (bitDepthGiven s) s else s := by
  simp [tellStrata, h]

/-- R79: a report that has just set GAIN, while a job is open and LOSS is clear. -/
theorem tellStrata_gain {s : State} (h : s.job.isOpen = true) (hloss : s.circ.loss = false) (d : Option Int) (e : Nat) :
    tellStrata d e true s = proposeStrike (bitDepthGiven s) s := by simp [tellStrata, h, hloss]

/-! ### What a report hands to the lag unit (R80, R95, R96) -/

theorem worse_eq_rejected (a b : Trust) : a.worse b = .rejected ↔ a = .rejected ∨ b = .rejected := by
  cases a <;> cases b <;> decide

theorem worse_eq_ok (a b : Trust) : a.worse b = .ok ↔ a = .ok ∧ b = .ok := by
  cases a <;> cases b <;> decide

/-- Two trusts are the same when they are REJECTED together and OK together. -/
theorem trust_ext {a b : Trust} (hrejected : a = .rejected ↔ b = .rejected) (hok : a = .ok ↔ b = .ok) : a = b := by
  cases a with
  | ok => exact (hok.mp rfl).symm
  | rejected => exact (hrejected.mp rfl).symm
  | suspect =>
    cases b with
    | suspect => rfl
    | ok => exact absurd (hok.mpr rfl) (by decide)
    | rejected => exact absurd (hrejected.mpr rfl) (by decide)

/-- R95: the worst of several trusts. -/
def worstOf (xs : List Trust) : Trust :=
  if .rejected ∈ xs then .rejected else if .suspect ∈ xs then .suspect else .ok

theorem worstOf_eq_rejected (xs : List Trust) : worstOf xs = .rejected ↔ .rejected ∈ xs := by
  unfold worstOf
  split
  · simp [*]
  · split <;> simp [*]

theorem worstOf_eq_ok (xs : List Trust) : worstOf xs = .ok ↔ ∀ x ∈ xs, x = .ok := by
  unfold worstOf
  split
  next hrejected => simpa using ⟨_, hrejected, by decide⟩
  next hrejected =>
    split
    next hsuspect => simpa using ⟨_, hsuspect, by decide⟩
    next hsuspect =>
      refine iff_of_true rfl fun x hx => ?_
      cases x with
      | ok => rfl
      | suspect => exact absurd hx hsuspect
      | rejected => exact absurd hx hrejected

/-- R95: the worse of two trusts is the worst of them. -/
theorem worse_worstOf (a : Trust) (xs : List Trust) : a.worse (worstOf xs) = worstOf (a :: xs) := by
  have hrejected : a.worse (worstOf xs) = .rejected ↔ worstOf (a :: xs) = .rejected := by
    rw [worse_eq_rejected, worstOf_eq_rejected, worstOf_eq_rejected, List.mem_cons, eq_comm (a := a)]
  have hok : a.worse (worstOf xs) = .ok ↔ worstOf (a :: xs) = .ok := by
    rw [worse_eq_ok, worstOf_eq_ok, worstOf_eq_ok, List.forall_mem_cons]
  exact trust_ext hrejected hok

/-- R95: the worst state of the four channels. -/
theorem worstChannel_eq (c : Circ) :
    worstChannel c = worstOf [c.p1.state, c.p2.state, c.flowOut.state, c.pit.state] :=
  trust_ext (by simp [worstChannel, worse_eq_rejected, worstOf_eq_rejected, or_assoc, eq_comm (a := Trust.rejected)])
    (by simp [worstChannel, worse_eq_ok, worstOf_eq_ok, and_assoc])

theorem seeChannels_eq (c : Circ) (x : LagEntry) :
    seeChannels c x = { x with
      quality := worstOf (x.quality :: [c.p1.state, c.p2.state, c.flowOut.state, c.pit.state]),
      strokesHeld := x.strokesHeld || c.p1.state == .rejected || c.p2.state == .rejected } := by
  rw [seeChannels, worstChannel_eq, worse_worstOf, strokesRejected, Bool.or_assoc]

/-- Settles O38: the lost volume and the proposal on the interval at the bit depth, and each entry of the queue by
`seeChannels_eq`. -/
theorem reportTellsStrataAndLag : Obligations.ReportTellsStrataAndLag := by
  refine ⟨fun d e gainSet s h => tellStrata_noJob h d e gainSet, fun d e x s h hx hmax => ?_,
    fun d e x s h hloss hx => (tellStrata_gain h hloss d e).trans (proposeStrike_eq hx), fun flowOut s => ?_⟩
  · intro lost
    have hcharged : tellStrata d e false s = chargeLoss lost (bitDepthGiven s) s := by
      rw [tellStrata_noGain h]
      by_cases hset : s.circ.loss = true ∧ lostVolume d e ≠ 0
      · rw [if_pos hset, show lost = lostVolume d e from if_pos hset.1]
      · have hnone : lost = 0 := by
          by_cases hloss : s.circ.loss = true
          · rw [show lost = lostVolume d e from if_pos hloss, Decidable.not_not.mp fun hne => hset ⟨hloss, hne⟩]
          · exact if_neg hloss
        rw [if_neg hset, hnone, chargeLoss_zero hx hmax]
    rw [hcharged, chargeLoss_eq lost hx]
  · simp only [lagHandOff, funext (seeChannels_eq s.circ)]
    rfl

end Sys2Proof.Machine

namespace Sys2Proof.Machine

/-! ### What a change of mode leaves of the circulation unit (R82, R175) -/

/-- R82: the circulation unit after the entry to SETUP. -/
def quieted (c : Circ) : Circ :=
  { c with lossStreak := 0, gainStreak := 0, balancedStreak := 0, loss := false, gain := false }

/-- R82: the circulation unit stands, or has been through the entry to SETUP. -/
def KeptOrQuieted (before after : Circ) : Prop := after = before ∨ after = quieted before

theorem KeptOrQuieted.trans {a b c : Circ} (hab : KeptOrQuieted a b) (hbc : KeptOrQuieted b c) : KeptOrQuieted a c := by
  rcases hab with rfl | rfl
  · exact hbc
  · rcases hbc with rfl | rfl <;> exact .inr rfl

@[simp] theorem circEnterSetup_circ (s : State) : (circEnterSetup s).circ = quieted s.circ := by
  simp [circEnterSetup, quieted]

@[simp] theorem enterSetupSteps_circ (s : State) : (enterSetupSteps s).circ = quieted s.circ := by
  simp [enterSetupSteps]

theorem setMode_circ (m : Mode) (s : State) : KeptOrQuieted s.circ (setMode m s).circ := by
  unfold setMode
  simp only
  split
  · exact .inl rfl
  · split
    · exact .inr (by simp)
    · exact .inl (by simp)

theorem takeMode_circ (m : Mode) (s : State) : KeptOrQuieted s.circ (takeMode m s).circ :=
  setMode_circ m (dropPending s)

theorem recheck_circ (s : State) : KeptOrQuieted s.circ (recheck s).circ := by
  unfold recheck
  split
  · split
    · exact takeMode_circ _ s
    · exact .inl rfl
  · exact .inl rfl

theorem wakeEvent_circ (w : WakeSource) (s : State) : KeptOrQuieted s.circ (wakeEvent w s).circ := by
  unfold wakeEvent
  simp only
  split
  · split
    · have hset := setMode_circ .watch (raiseIf (s.modes.flags w).notice .standbyEvent w.number
        (s.modes.flags w).wake.toNat s)
      simp only [raiseIf_frame] at hset
      exact hset.trans (recheck_circ _)
    · exact .inl (by simp)
  · exact .inl rfl

theorem wakeEvents_circ (ws : List WakeSource) (s : State) : KeptOrQuieted s.circ (wakeEvents ws s).circ := by
  induction ws generalizing s with
  | nil => exact .inl rfl
  | cons w ws ih => exact (wakeEvent_circ w s).trans (ih (wakeEvent w s))

end Sys2Proof.Machine

namespace Sys2Proof.Machine

/-! ### The channels of a report (R67 to R71) -/

/-- R69 to R71: a channel after a reading. -/
def judgedChannel (plausible : Bool) (value : Nat) (x : Channel) : Channel :=
  keepPlausible plausible value (judgeReading plausible x)

/-- R69, R71: on a channel that is not REJECTED, a reading moves the counter, which gives the state. -/
theorem judgeReading_trusted {x : Channel} (h : x.state ≠ .rejected) (plausible : Bool) :
    judgeReading plausible x = { x with
      counter := countReading plausible x.counter, state := trustOf (countReading plausible x.counter),
      recovery := if 256 ≤ countReading plausible x.counter then 0 else x.recovery } := if_neg h

/-- R71: a reading that leaves a channel trusted is kept where it is plausible. -/
theorem keepPlausible_trusted {x : Channel} (h : x.state ≠ .rejected) (plausible : Bool) (value : Nat) :
    keepPlausible plausible value x = { x with last := if plausible = true then some value else x.last } := by
  cases plausible <;> simp [keepPlausible, h]

theorem keepPlausible_rejected {x : Channel} (h : x.state = .rejected) (plausible : Bool) (value : Nat) :
    keepPlausible plausible value x = x := by simp [keepPlausible, h]

/-- R67: the three ranges of a counter, from the lowest. -/
theorem trustOf_eq (counter : Nat) :
    trustOf counter = if counter < 96 then .ok else if counter < 256 then .suspect else .rejected := by
  unfold trustOf
  split
  next h => rw [if_neg (by omega), if_neg (by omega)]
  next h =>
    split
    next => rw [if_neg (by omega), if_pos (by omega)]
    next => rw [if_pos (by omega)]

theorem channelAfter_trusted {x : Channel} (h : x.state ≠ .rejected) (plausible : Bool) (value : Nat) :
    channelAfter plausible value x =
      let counter := countReading plausible x.counter
      let last := if plausible = true then some value else x.last
      if counter < 96 then { x with counter := counter, state := .ok, last := last }
      else if counter < 256 then { x with counter := counter, state := .suspect, last := last }
      else { x with counter := counter, state := .rejected, recovery := 0 } := if_neg h

theorem judgedChannel_eq (plausible : Bool) (value : Nat) (x : Channel) :
    judgedChannel plausible value x = channelAfter plausible value x := by
  by_cases hstate : x.state = .rejected
  · cases plausible with
    | false => simp [judgedChannel, channelAfter, judgeReading, keepPlausible, hstate]
    | true =>
      by_cases hrecovery : x.recovery + 1 < 128
      · simp [judgedChannel, channelAfter, judgeReading, keepPlausible, hstate, hrecovery]
      · simp [judgedChannel, channelAfter, judgeReading, keepPlausible, hstate, hrecovery]
  · rw [judgedChannel, judgeReading_trusted hstate, channelAfter_trusted hstate]
    generalize countReading plausible x.counter = k
    by_cases hok : k < 96
    · have hunder : ¬ 256 ≤ k := by omega
      rw [keepPlausible_trusted (by simp [trustOf_eq, hok])]
      simp [trustOf_eq, hok, hunder]
    · by_cases hsuspect : k < 256
      · rw [keepPlausible_trusted (by simp [trustOf_eq, hok, hsuspect])]
        simp [trustOf_eq, hok, hsuspect, Nat.not_le.mpr hsuspect]
      · have hover : 256 ≤ k := Nat.le_of_not_lt hsuspect
        rw [keepPlausible_rejected (by simp [trustOf_eq, hok, hsuspect])]
        simp [trustOf_eq, hok, hsuspect, hover]

/-- R68: the test of a strokes channel. -/
theorem strokesPlausible_iff (x : Pump) (strokes e : Nat) :
    strokesPlausible x strokes e = true ↔ x.displacement = 0 ∨ strokes ≤ x.maxRate * e / 60 + 1 := by
  simp [strokesPlausible, Pump.present]

/-- R68: the test of PIT. -/
theorem pitPlausible_iff (c : Circ) (pit : Nat) :
    pitPlausible c pit = true ↔ ∀ r ∈ c.pit.reference, pit ≤ r + c.pitStep ∧ r ≤ pit + c.pitStep := by
  unfold pitPlausible
  split
  next r hr => simp [hr, Nat.add_comm]
  next hr => simp [hr]

/-- A notice looks at the levels, the ports and the job, and not at the circulation unit. -/
theorem channelNotice_setCirc (n : Nat) (before after : Channel) (c : Circ) (s : State) :
    channelNotice n before after (s.setCirc c) = (channelNotice n before after s).setCirc c := by
  unfold channelNotice
  split <;> rfl

theorem judgeChannel_eq (n : Nat) (plausible : Bool) (value : Nat) (s : State) :
    judgeChannel n plausible value s =
      channelNotice n (channelAt s.circ n) (judgedChannel plausible value (channelAt s.circ n))
        (s.setCirc (setChannel n (judgedChannel plausible value (channelAt s.circ n)) s.circ)) := rfl

theorem setCirc_setCirc (c d : Circ) (s : State) : (s.setCirc c).setCirc d = s.setCirc d := rfl

/-- R66: the four channels judged at once, and then their notices in channel order. -/
theorem judgeChannels_eq (p1 p2 flowOut pit e : Nat) (s : State) :
    judgeChannels p1 p2 flowOut pit e s =
      let c1 := judgedChannel (strokesPlausible s.circ.pump1 p1 e) (p1 * 1000 / e) s.circ.p1
      let c2 := judgedChannel (strokesPlausible s.circ.pump2 p2 e) (p2 * 1000 / e) s.circ.p2
      let c3 := judgedChannel (flowOut ≤ s.circ.flowOutMax) flowOut s.circ.flowOut
      let c4 := judgedChannel (pitPlausible s.circ pit) pit s.circ.pit
      channelNotice 4 s.circ.pit c4 (channelNotice 3 s.circ.flowOut c3
        (channelNotice 2 s.circ.p2 c2 (channelNotice 1 s.circ.p1 c1
          (s.setCirc { s.circ with p1 := c1, p2 := c2, flowOut := c3, pit := pitReference pit c4 })))) := by
  simp only [judgeChannels, judgeChannel_eq, channelAt, setChannel, channelNotice_setCirc, setCirc_setCirc, State.setCirc_circ]
  rfl

/-- R66, stage 1. -/
theorem stageChannels_eq (p1 p2 flowOut pit e : Nat) (s : State) :
    stageChannels p1 p2 flowOut pit e s = judgeChannels p1 p2 flowOut pit e s := by
  simp only [judgeChannels_eq, judgedChannel_eq]
  simp only [← strokesPlausible_iff, ← pitPlausible_iff, stageChannels, Bool.decide_eq_true]
  rfl

/-! ### The volume, the status and the balance of a report (R72, R73, R75, R76) -/

theorem reportVolume_eq (c : Circ) (p1 p2 e : Nat) :
    reportVolume c p1 p2 e =
      (if c.p1.state = .rejected then c.p1.last.getD 0 * e / 1000 else p1) *
          (c.pump1.displacement * c.pump1.efficiency / 1000) +
        (if c.p2.state = .rejected then c.p2.last.getD 0 * e / 1000 else p2) *
          (c.pump2.displacement * c.pump2.efficiency / 1000) := by
  simp only [reportVolume, strokeVolume_eq, strokesUsed]

/-- R66, stage 2. -/
theorem stageVolume_eq (p1 p2 e : Nat) (s : State) :
    stageVolume p1 p2 e s = addVolume (reportVolume s.circ p1 p2 e) e s := by
  rw [reportVolume_eq]
  rfl

/-- R66, stage 3. -/
theorem stageStatus_eq (s : State) : stageStatus s = setStatus (if 0 < s.circ.flowIn then .on else .off) s := rfl

/-- R76: of the circulation unit, a difference moves the streaks. -/
@[simp] theorem moveStreaks_frame (d : Option Int) (c : Circ) :
    (moveStreaks d c).lastD = c.lastD ∧ (moveStreaks d c).pit = c.pit ∧ (moveStreaks d c).loss = c.loss ∧
    (moveStreaks d c).gain = c.gain := by
  unfold moveStreaks
  split
  · and_intros <;> rfl
  · split
    · and_intros <;> rfl
    · split <;> and_intros <;> rfl

/-- R66, stage 4. -/
theorem stageBalance_eq (flowOut pit e : Nat) (s : State) :
    stageBalance ((flowOutChosen s.circ flowOut pit e).map fun out => (s.circ.flowIn : Int) - out)
      (flowOutChosen s.circ flowOut pit e) pit s = balance flowOut pit e s := by
  simp only [stageBalance, balance, moveStreaks_frame]
  cases flowOutChosen s.circ flowOut pit e <;> rfl

theorem readingUsed_eq (x : Channel) (value : Nat) : readingUsed x value = valueUsed x value := rfl

theorem reportElapsed_eq (s : State) : reportElapsed s = reportSeconds s := by
  unfold reportElapsed reportSeconds
  cases s.circ.reportSecond <;> rfl

/-- R65, R66: the state of a report after stage 1. -/
def reportJudged (p1 p2 flowOut pit : Nat) (s : State) : State :=
  judgeChannels p1 p2 flowOut pit (reportSeconds s) (s.setCirc { s.circ with reportSecond := some s.seconds })

/-- R66, stages 2 and 3: the volume and the status. -/
def reportCounted (p1 p2 e : Nat) (judged : State) : State :=
  let counted := addVolume (reportVolume judged.circ p1 p2 e) e judged
  setStatus (if 0 < counted.circ.flowIn then .on else .off) counted

/-- R66: the state of a report after stage 4. -/
def reportBalanced (p1 p2 flowOut pit : Nat) (s : State) : State :=
  balance flowOut pit (reportSeconds s) (reportCounted p1 p2 (reportSeconds s) (reportJudged p1 p2 flowOut pit s))

/-- R66, R81: a report taken leaves its six stages in order, and its wake events are judged from the state that they leave. -/
theorem reportTaken_eq (p1 p2 flowOut pit : Nat) (s : State) :
    reportTaken p1 p2 flowOut pit s = { taken (reportStages p1 p2 flowOut pit s) with
      wakes := reportWakes (reportStages p1 p2 flowOut pit s).circ p1 p2 flowOut } := by
  simp only [reportTaken, taken, reportStages, stageChannels_eq, stageVolume_eq, stageStatus_eq, stageBalance_eq,
    reportElapsed_eq, readingUsed_eq, State.setCirc]

/-- R66: the hand-offs of stages 5 and 6 leave the circulation unit alone. -/
theorem reportTaken_circ (p1 p2 flowOut pit : Nat) (s : State) :
    (reportTaken p1 p2 flowOut pit s).state.circ = (reportBalanced p1 p2 flowOut pit s).circ := by
  simp only [reportTaken, taken_state, lagHandOff_frame, tellStrata_frame, reportElapsed_eq]
  rfl

/-! ### What a report measures, beside its balance (R72, R73) -/

/-- The circulation unit without the balance and its alarms, which a change of mode may clear. -/
def measured (c : Circ) : Circ :=
  quieted { c with flowOutUsed := none, lastD := none, previousPit := none }

theorem measured_keptOrQuieted {before after : Circ} (h : KeptOrQuieted before after) : measured after = measured before := by
  rcases h with rfl | rfl <;> rfl

theorem measured_moveStreaks (d : Option Int) (c : Circ) : measured (moveStreaks d c) = measured c := by
  unfold moveStreaks
  split
  · rfl
  · split
    · rfl
    · split <;> rfl

theorem measured_updateAlarms (s : State) : measured (updateAlarms s).circ = measured s.circ := by
  rw [updateAlarms_eq]
  split
  · simp [measured, quieted]
  · split
    · simp [measured, quieted]
    · split <;> simp [measured, quieted]

theorem measured_balance (flowOut pit e : Nat) (s : State) : measured (balance flowOut pit e s).circ = measured s.circ :=
  (measured_updateAlarms _).trans (measured_moveStreaks _ s.circ)

/-- R73: the status, whatever a change of it makes of the pending mode request. -/
theorem measured_setStatus (x : CircStatus) (s : State) :
    measured (setStatus x s).circ = { measured s.circ with status := x } := by
  unfold setStatus
  split
  next h => rw [← h]; rfl
  next => exact measured_keptOrQuieted (recheck_circ _)

/-- R72, R73: what a report of `e` seconds measures, from the circulation unit as stage 1 leaves it. -/
def reportMeasured (jobOpen : Bool) (p1 p2 e : Nat) (judged : Circ) : Circ :=
  let volume := reportVolume judged p1 p2 e
  { measured judged with
    pumped := if jobOpen = true then volume64 (judged.pumped + volume) else judged.pumped,
    flowIn := flowInOf volume e, lastE := some e, lastVolume := some volume,
    status := if 0 < flowInOf volume e then .on else .off }

/-- What is measured, field by field; the volume is that of the channels and pumps after the report too. -/
theorem reportMeasured_fields {jobOpen : Bool} {p1 p2 e : Nat} {judged c : Circ}
    (h : measured c = reportMeasured jobOpen p1 p2 e judged) :
    let volume := reportVolume c p1 p2 e
    c.lastE = some e ∧ c.lastVolume = some volume ∧ c.flowIn = flowInOf volume e ∧
      c.status = (if 0 < c.flowIn then .on else .off) ∧
      c.pumped = (if jobOpen = true then volume64 (judged.pumped + volume) else judged.pumped) := by
  intro volume
  have hvolume : volume = reportVolume judged p1 p2 e := (congrArg (fun x => reportVolume x p1 p2 e) h :)
  have hflowIn : c.flowIn = flowInOf volume e := hvolume ▸ (congrArg Circ.flowIn h :)
  rw [hflowIn, hvolume]
  exact ⟨(congrArg Circ.lastE h :), (congrArg Circ.lastVolume h :), rfl, (congrArg Circ.status h :),
    (congrArg Circ.pumped h :)⟩

/-- What stage 1 of a report decides, and the later stages leave. -/
theorem reportMeasured_keeps {jobOpen : Bool} {p1 p2 e : Nat} {judged c : Circ}
    (h : measured c = reportMeasured jobOpen p1 p2 e judged) :
    c.reportSecond = judged.reportSecond ∧ c.pump1 = judged.pump1 ∧ c.pump2 = judged.pump2 ∧ c.p1 = judged.p1 ∧
      c.p2 = judged.p2 ∧ c.flowOut = judged.flowOut ∧ c.pit = judged.pit :=
  ⟨(congrArg Circ.reportSecond h :), (congrArg Circ.pump1 h :), (congrArg Circ.pump2 h :), (congrArg Circ.p1 h :),
    (congrArg Circ.p2 h :), (congrArg Circ.flowOut h :), (congrArg Circ.pit h :)⟩

theorem measured_reportCounted (p1 p2 e : Nat) (judged : State) :
    measured (reportCounted p1 p2 e judged).circ = reportMeasured judged.job.isOpen p1 p2 e judged.circ := by
  rw [reportCounted, measured_setStatus]
  rfl

theorem measured_reportTaken (p1 p2 flowOut pit : Nat) (s : State) :
    measured (reportTaken p1 p2 flowOut pit s).state.circ =
      reportMeasured s.job.isOpen p1 p2 (reportSeconds s) (reportJudged p1 p2 flowOut pit s).circ := by
  have hjob : (reportJudged p1 p2 flowOut pit s).job = s.job := by simp [reportJudged]
  rw [reportTaken_circ, reportBalanced, measured_balance, measured_reportCounted, hjob]

/-- R66, stage 1: the channels after a report. -/
theorem reportJudged_circ (p1 p2 flowOut pit : Nat) (s : State) :
    let e := reportSeconds s
    let c4 := judgedChannel (pitPlausible s.circ pit) pit s.circ.pit
    (reportJudged p1 p2 flowOut pit s).circ = { s.circ with
      reportSecond := some s.seconds,
      p1 := judgedChannel (strokesPlausible s.circ.pump1 p1 e) (p1 * 1000 / e) s.circ.p1,
      p2 := judgedChannel (strokesPlausible s.circ.pump2 p2 e) (p2 * 1000 / e) s.circ.p2,
      flowOut := judgedChannel (flowOut ≤ s.circ.flowOutMax) flowOut s.circ.flowOut,
      pit := pitReference pit c4 } := by
  simp only [reportJudged, judgeChannels_eq, channelNotice_frame, State.setCirc_circ]
  rfl

/-! ### CIRCULATION (R65, R66, R81) -/

/-- R65: the two refusals of a report, and the report taken. -/
theorem execCirculation_eq (p : Port) (p1 p2 flowOut pit : Nat) {s : State} (h : s.power = .running) :
    exec (.circulation p p1 p2 flowOut pit) s = .next (
      if p ≠ .mud then settled p 42 .notPermitted [] s
      else if 6000 < flowOut ∨ 60000 < pit then settled p 42 .outOfRange [] s
      else settledBy p 42 (reportTaken p1 p2 flowOut pit s)) := by
  refine request_eq h ?_
  refine settledBy_check (onlyFrom_mud p) fun _ => ?_
  exact settledBy_check (by simp) fun _ => rfl

/-- R65: a report from MUD within its ranges is taken. -/
theorem execCirculation_taken (p1 p2 : Nat) {flowOut pit : Nat} {s : State} (h : s.power = .running)
    (hout : flowOut ≤ 6000) (hpit : pit ≤ 60000) :
    exec (.circulation .mud p1 p2 flowOut pit) s = .next (settledBy .mud 42 (reportTaken p1 p2 flowOut pit s)) := by
  rw [execCirculation_eq .mud p1 p2 flowOut pit h, if_neg (by simp), if_neg (by omega)]

/-- R81: MUD carries no wake event by its port, so the wake events of a report are those it contains. -/
theorem settledBy_mud (ws : List WakeSource) (t : State) :
    settledBy .mud 42 { taken t with wakes := ws } = wakeEvents ws (placeReply .mud 42 .ok [] t) := rfl

theorem measured_settledBy (p : Port) (code : Nat) (r : Response) :
    measured (settledBy p code r).circ = measured r.state.circ := by
  rw [settledBy, measured_keptOrQuieted (wakeEvents_circ _ _)]
  rfl

/-- The circulation unit after a report, its reply and its wake events. -/
theorem measured_reportSettled (p1 p2 flowOut pit : Nat) (s : State) :
    measured (settledBy .mud 42 (reportTaken p1 p2 flowOut pit s)).circ =
      reportMeasured s.job.isOpen p1 p2 (reportSeconds s) (reportJudged p1 p2 flowOut pit s).circ :=
  (measured_settledBy ..).trans (measured_reportTaken ..)

/-- Settles O35: the stages of a report by `reportTaken_eq`, and its fields by `measured_reportSettled`: no alarm and no change of
mode touches them. -/
theorem circulationReportVolume : Obligations.CirculationReportVolume := by
  refine ⟨fun p p1 p2 flowOut pit s h hp => ?notPermitted, fun p1 p2 flowOut pit s h hrange => ?outOfRange,
    fun p1 p2 flowOut pit s h hout hpit _ => ?stages, fun p1 p2 flowOut pit s h hout hpit => ?fields⟩
  case notPermitted => rw [execCirculation_eq p p1 p2 flowOut pit h, if_pos hp]
  case outOfRange => rw [execCirculation_eq .mud p1 p2 flowOut pit h, if_neg (by simp), if_pos hrange]
  case stages =>
    intro t events
    rw [execCirculation_taken p1 p2 h hout hpit, reportTaken_eq, settledBy_mud, wakeEvents, reportWakes]
  case fields =>
    refine ⟨_, execCirculation_taken p1 p2 h hout hpit, ?_⟩
    intro e used stroke volume
    have hmeasured := measured_reportSettled p1 p2 flowOut pit s
    rw [reportJudged_circ] at hmeasured
    obtain ⟨hsecond, hpump1, hpump2, -⟩ := reportMeasured_keeps hmeasured
    obtain ⟨he, hvolume, hflowIn, hstatus, hpumped⟩ := reportMeasured_fields hmeasured
    simp only [reportVolume_eq, hpump1, hpump2] at hvolume hflowIn hpumped
    refine ⟨hsecond, he, hvolume, hflowIn, hstatus, hpumped, hpump1, hpump2, ?_⟩
    simp [settledBy]

/-- Settles O36: the channels by `reportJudged_circ`, which the later stages leave, and the notice by the two states. -/
theorem circulationJudgesChannels : Obligations.CirculationJudgesChannels := by
  refine ⟨fun p1 p2 flowOut pit s h hout hpit _ => ⟨_, execCirculation_taken p1 p2 h hout hpit, ?_⟩,
    fun n before after s => ⟨fun hb ha => ?held, fun hb ha => ?recovered, fun hb ha => ?rejected, fun hb ha => ?suspect,
      fun hb ha => ?trusted, fun hb ha => ?suspectHeld⟩⟩
  · have hmeasured := measured_reportSettled p1 p2 flowOut pit s
    rw [reportJudged_circ] at hmeasured
    obtain ⟨-, -, -, hp1, hp2, hflowOut, hpit⟩ := reportMeasured_keeps hmeasured
    rw [hp1, hp2, hflowOut, hpit]
    simp only [← strokesPlausible_iff, ← pitPlausible_iff, Bool.decide_eq_true, ← judgedChannel_eq, true_and]
    rfl
  case held | suspect | suspectHeld => simp [channelNotice, hb, ha]
  case recovered =>
    unfold channelNotice
    cases hafter : after.state with
    | rejected => exact absurd hafter ha
    | ok | suspect => simp [hb]
  case rejected | trusted =>
    unfold channelNotice
    cases hbefore : before.state with
    | rejected => exact absurd hbefore hb
    | ok | suspect => simp [ha]

end Sys2Proof.Machine

namespace Sys2Proof.Machine

/-! ### What `AlarmsApart` looks at (R77) -/

section
variable {s t : State}

theorem alarmsApart_congr (h : t.circ = s.circ) (hs : AlarmsApart s) : AlarmsApart t := by
  rwa [AlarmsApart, h]

theorem alarmsApart_of_loss_clear (h : s.circ.loss = false) : AlarmsApart s := by simp [AlarmsApart, h]

theorem alarmsApart_of_gain_clear (h : s.circ.gain = false) : AlarmsApart s := by simp [AlarmsApart, h]

/-- R82: the entry to SETUP clears both alarms. -/
theorem alarmsApart_of_keptOrQuieted (h : KeptOrQuieted s.circ t.circ) (hs : AlarmsApart s) : AlarmsApart t := by
  rcases h with hkept | hquieted
  · exact alarmsApart_congr hkept hs
  · exact alarmsApart_of_loss_clear (by rw [hquieted]; rfl)

theorem recheck_alarmsApart (hs : AlarmsApart s) : AlarmsApart (recheck s) :=
  alarmsApart_of_keptOrQuieted (recheck_circ s) hs

theorem takeMode_alarmsApart (m : Mode) (hs : AlarmsApart s) : AlarmsApart (takeMode m s) :=
  alarmsApart_of_keptOrQuieted (takeMode_circ m s) hs

theorem keptByAnswer_alarmsApart : KeptByAnswer AlarmsApart where
  reply _ _ _ _ _ := alarmsApart_congr (by rfl)
  wakes ws s := alarmsApart_of_keptOrQuieted (wakeEvents_circ ws s)
  zeros _ _ := alarmsApart_congr (by rfl)

/-! ### A circulation report sets one alarm and clears the other (R77) -/

/-- R77: an alarm is set after the other has been cleared. -/
theorem updateAlarms_alarmsApart (hs : AlarmsApart s) : AlarmsApart (updateAlarms s) := by
  rw [updateAlarms_eq]
  split
  · exact alarmsApart_of_gain_clear (by simp)
  · split
    · exact alarmsApart_of_loss_clear (by simp)
    · split
      · exact alarmsApart_of_gain_clear (by simp)
      · exact hs

theorem balance_alarmsApart (flowOut pit e : Nat) (hs : AlarmsApart s) : AlarmsApart (balance flowOut pit e s) :=
  updateAlarms_alarmsApart (by simpa [AlarmsApart] using hs)

theorem setStatus_alarmsApart (x : CircStatus) (hs : AlarmsApart s) : AlarmsApart (setStatus x s) := by
  unfold setStatus
  split
  · exact hs
  · exact recheck_alarmsApart hs

theorem judgeChannel_alarmsApart (n : Nat) (plausible : Bool) (value : Nat) (hs : AlarmsApart s) :
    AlarmsApart (judgeChannel n plausible value s) := by
  have hset : ∀ x, (setChannel n x s.circ).loss = s.circ.loss ∧ (setChannel n x s.circ).gain = s.circ.gain := by
    intro x
    unfold setChannel
    split <;> exact ⟨rfl, rfl⟩
  simpa [AlarmsApart, judgeChannel, hset] using hs

theorem judgeChannels_alarmsApart (p1 p2 flowOut pit e : Nat) (hs : AlarmsApart s) :
    AlarmsApart (judgeChannels p1 p2 flowOut pit e s) := by
  unfold judgeChannels
  have h1 := judgeChannel_alarmsApart 1 (strokesPlausible s.circ.pump1 p1 e) (p1 * 1000 / e) hs
  exact judgeChannel_alarmsApart 4 _ _ (judgeChannel_alarmsApart 3 _ _ (judgeChannel_alarmsApart 2 _ _ h1))

theorem reportCounted_alarmsApart (p1 p2 e : Nat) (hs : AlarmsApart s) : AlarmsApart (reportCounted p1 p2 e s) :=
  setStatus_alarmsApart _ hs

theorem reportTaken_alarmsApart (p1 p2 flowOut pit : Nat) (hs : AlarmsApart s) :
    AlarmsApart (reportTaken p1 p2 flowOut pit s).state :=
  alarmsApart_congr (reportTaken_circ p1 p2 flowOut pit s)
    (balance_alarmsApart _ _ _ (reportCounted_alarmsApart _ _ _ (judgeChannels_alarmsApart p1 p2 flowOut pit _
      (s := s.setCirc _) hs)))

/-! ### The work of a device second, and of the events it makes -/

theorem expireStab_alarmsApart (hs : AlarmsApart s) : AlarmsApart (expireStab s) := by
  unfold expireStab
  split
  · exact recheck_alarmsApart hs
  · exact hs

theorem makeStale_alarmsApart (hs : AlarmsApart s) : AlarmsApart (makeStale s) := by
  unfold makeStale
  split
  · exact recheck_alarmsApart hs
  · exact hs

theorem permitReadback_alarmsApart (pins : SensePins) (hs : AlarmsApart s) : AlarmsApart (permitReadback pins s) := by
  have hcompared := alarmsApart_congr (s := s) (t := sensePermits pins s) rfl hs
  unfold permitReadback
  simp only
  split
  · exact recheck_alarmsApart (alarmsApart_congr (by simp) hcompared)
  · exact alarmsApart_congr (by simp) hcompared

theorem secondComparison_alarmsApart (q : Permit) (sense : Bool) (hs : AlarmsApart s) :
    AlarmsApart (secondComparison q sense s) := by
  unfold secondComparison
  simp only
  split
  · exact recheck_alarmsApart hs
  · exact hs

theorem secondPasses_alarmsApart (pins : SensePins) (hs : AlarmsApart s) : AlarmsApart (secondPasses pins s) := by
  have hcounted : AlarmsApart (wearSecond (advanceSeconds (overdueExpiries s))) :=
    alarmsApart_congr (by simp [advanceSeconds, overdueExpiries]) (makeStale_alarmsApart (expireStab_alarmsApart hs))
  exact alarmsApart_congr (by simp [secondPasses]) (permitReadback_alarmsApart pins hcounted)

/-! ### The moves, and power coming and going (R173, R196, R197) -/

theorem resolveTaken_alarmsApart (destination slot : Nat) (hs : AlarmsApart s) :
    AlarmsApart (resolveTaken destination slot s) := by
  unfold resolveTaken
  split
  · exact recheck_alarmsApart (alarmsApart_congr (by simp) hs)
  · exact recheck_alarmsApart hs
  · exact recheck_alarmsApart hs

theorem refuseMove_circ (code : Nat) (c : ReplyCode) (s : State) : (refuseMove code c s).state.circ = s.circ := by
  unfold refuseMove
  split <;> rfl

theorem chooseMode_circ (s : State) : (chooseMode s).circ = s.circ := by
  unfold chooseMode
  simp only
  split <;> rfl

theorem countPowerEvent_circ (s : State) : (countPowerEvent s).circ = s.circ := by
  rw [countPowerEvent_eq]

theorem checkTally_circ (s : State) : (checkTally s).circ = s.circ := by
  unfold checkTally
  split <;> rfl

/-- R85, R197: both alarms are clear after power-on. -/
theorem powerUp_alarmsApart (valid : Bool) (s : State) : AlarmsApart (powerUp valid s) := by
  have hcirc : (powerUp valid s).circ = (readStore valid (volatileReset s)).circ := by
    simp [powerUp, checkTally_circ, countPowerEvent_circ, chooseMode_circ]
  refine alarmsApart_congr hcirc (alarmsApart_of_loss_clear ?_)
  cases valid <;> rfl

theorem volatileReset_alarmsApart (s : State) : AlarmsApart (volatileReset s) := alarmsApart_of_loss_clear rfl

theorem execPowerOn_alarmsApart {valid : Bool} (h : execPowerOn valid s = .next t) : AlarmsApart t := by
  unfold execPowerOn at h
  split at h <;> cases h
  · exact powerUp_alarmsApart valid s
  · exact powerUp_alarmsApart valid s
  · exact volatileReset_alarmsApart s
  · exact volatileReset_alarmsApart s

theorem execResetAsserted_circ (h : execResetAsserted s = .next t) : t.circ = s.circ := by
  unfold execResetAsserted at h
  split at h <;> cases h <;> rfl

theorem execResetReleased_alarmsApart {valid : Bool} (hs : AlarmsApart s) (h : execResetReleased valid s = .next t) :
    AlarmsApart t := by
  unfold execResetReleased at h
  split at h <;> cases h
  · exact powerUp_alarmsApart valid s
  · exact alarmsApart_congr rfl hs
  · exact hs
  · exact hs

theorem execReadTransaction_circ {p : Port} {clocked : Nat} (h : execReadTransaction p clocked s = .next t) :
    t.circ = s.circ := by
  unfold execReadTransaction at h
  split at h <;> cases h <;> rfl

/-! ### Every command keeps LOSS and GAIN apart (R77) -/

section
variable {p : Port} {code : Nat} {checks : State → List (Bool × ReplyCode)}

/-- A checked request whose effect leaves the circulation unit alone. -/
theorem request_circ {r : State → Response} (h : request p code (fun s => checked (checks s) s (r s)) s = .next t)
    (hs : AlarmsApart s) (hr : (r s).state.circ = s.circ) : AlarmsApart t :=
  request_checked_keeps keptByAnswer_alarmsApart h hs fun _ => alarmsApart_congr hr hs

/-- A move whose effect keeps the alarms apart: its refusals leave the circulation unit alone. -/
theorem moveRequest_alarmsApart {effect : State → State} (h : moveRequest p code checks effect s = .next t)
    (hs : AlarmsApart s) (he : AlarmsApart (effect s)) : AlarmsApart t :=
  moveRequest_keeps keptByAnswer_alarmsApart h hs (fun c => alarmsApart_congr (refuseMove_circ code c s) hs) fun _ => he

theorem execReleaseSlips_alarmsApart {pins : SensePins} (hs : AlarmsApart s) (h : execReleaseSlips p pins s = .next t) :
    AlarmsApart t := by
  refine writeTransaction_keeps keptByAnswer_alarmsApart h hs (respond_keeps keptByAnswer_alarmsApart ?_)
  exact judgedMove_keeps (fun c => alarmsApart_congr (refuseMove_circ _ c _) hs)
    fun _ => recheck_alarmsApart (alarmsApart_congr (by simp [sensePermits]) hs)

theorem execReadTally_alarmsApart {pins : SensePins} (hs : AlarmsApart s) (h : execReadTally p pins s = .next t) :
    AlarmsApart t :=
  writeTransaction_keeps keptByAnswer_alarmsApart h hs (respond_keeps keptByAnswer_alarmsApart hs)

theorem execBadFrame_alarmsApart (hs : AlarmsApart s) (h : execBadFrame p code s = .next t) : AlarmsApart t :=
  writeTransaction_keeps keptByAnswer_alarmsApart h hs hs

theorem execUnknownRequest_alarmsApart (hs : AlarmsApart s) (h : execUnknownRequest p code s = .next t) :
    AlarmsApart t :=
  writeTransaction_keeps keptByAnswer_alarmsApart h hs hs

theorem execEnterSetup_alarmsApart (hs : AlarmsApart s) (h : execEnterSetup p s = .next t) : AlarmsApart t := by
  refine request_checked_keeps keptByAnswer_alarmsApart h hs fun _ => ?_
  split
  · exact takeMode_alarmsApart _ hs
  · exact hs

theorem execEnterRun_alarmsApart (hs : AlarmsApart s) (h : execEnterRun p s = .next t) : AlarmsApart t := by
  refine request_checked_keeps keptByAnswer_alarmsApart h hs fun _ => ?_
  split
  · exact hs
  · exact takeMode_alarmsApart _ hs

theorem execEnterStandby_alarmsApart (hs : AlarmsApart s) (h : execEnterStandby p s = .next t) : AlarmsApart t := by
  refine request_keeps keptByAnswer_alarmsApart h hs ?_
  split
  · exact hs
  · split
    · exact takeMode_alarmsApart _ hs
    · exact hs

end

theorem exec_alarmsApart (c : Instr) (hs : AlarmsApart s) (h : exec c s = .next t) : AlarmsApart t := by
  cases c with
  | circulation =>
    exact request_checked_keeps keptByAnswer_alarmsApart h hs fun _ => reportTaken_alarmsApart _ _ _ _ hs
  | circStale => exact whileRunning_keeps h hs (makeStale_alarmsApart hs)
  | deviceSecond => exact whileRunning_keeps h hs (secondPasses_alarmsApart _ hs)
  | makeupExpired => exact whileRunning_keeps h hs (expireStab_alarmsApart hs)
  | permitFault => exact whileRunning_keeps h hs (secondComparison_alarmsApart _ _ hs)
  | pendingModeTaken => exact whileRunning_keeps h hs (recheck_alarmsApart hs)
  | sampleArrival => exact whileRunning_keeps h hs (alarmsApart_congr (by simp) hs)
  | powerOn => exact execPowerOn_alarmsApart h
  | resetAsserted => exact alarmsApart_congr (execResetAsserted_circ h) hs
  | resetReleased => exact execResetReleased_alarmsApart hs h
  | powerLoss => cases h; exact volatileReset_alarmsApart s
  | readTransaction => exact alarmsApart_congr (execReadTransaction_circ h) hs
  | releaseSlips => exact execReleaseSlips_alarmsApart hs h
  | resolveRod => exact moveRequest_alarmsApart h hs (resolveTaken_alarmsApart _ _ hs)
  | setSlips | unlatch | latch | breakJoint | pickRod | stab | makeJoint | rackRod | layOutRod =>
    exact moveRequest_alarmsApart h hs (recheck_alarmsApart (alarmsApart_congr (by simp) hs))
  | enterSetup => exact execEnterSetup_alarmsApart hs h
  | enterRun => exact execEnterRun_alarmsApart hs h
  | enterWatch => exact request_checked_keeps keptByAnswer_alarmsApart h hs fun _ => takeMode_alarmsApart _ hs
  | enterStandby => exact execEnterStandby_alarmsApart hs h
  | openJob =>
    refine request_checked_keeps keptByAnswer_alarmsApart h hs fun _ => ?_
    simpa [AlarmsApart, openJobTaken] using hs
  | setPump =>
    refine request_checked_keeps keptByAnswer_alarmsApart h hs fun _ => ?_
    unfold setPumpRecord
    split <;> exact hs
  | setCirculationLimits => exact request_checked_keeps keptByAnswer_alarmsApart h hs fun _ => hs
  | readTally => exact execReadTally_alarmsApart hs h
  | badFrame => exact execBadFrame_alarmsApart hs h
  | unknownRequest => exact execUnknownRequest_alarmsApart hs h
  | portReset | readNotice | readSummary =>
    exact request_keeps keptByAnswer_alarmsApart h hs (alarmsApart_congr (s := s) (by simp) hs)
  | readRod | readRodList | readSlot | readLaidOutList | readWearLimits | readStack | readBha | readMakeupLimits
  | readDepth | readCirculation | readChannel | readPumps | readCasingProgram | readAnnulus | readLagQueue | readLog
  | readInterval | readIntervalAtDepth | readSamples | readTicket | readRateCard | readJobTotals | readNoticeStatus
  | readNoticeLevels | readMode | readPortStatus | readJob => exact readRequest_keeps keptByAnswer_alarmsApart h hs
  | rackSense =>
    refine request_circ h hs ?_
    exact foldl_keeps State.circ (fun s n => raise .rackDiscrepancy n 0 s) (fun _ _ => rfl) _ _
  | registerRod | deleteRod | restoreRod | setWearLimits | setSlotSensing | setBha | setMakeupLimits | block | downStart
  | downEnd | additive | setCasingProgram | sampleCaught | setDrillBreak | reArm | classify | confirm | merge | split
  | waterStrike | clearWaterStrike | setBandRates | setTierMultipliers | setHourlyRates | setAdditivePrices
  | closeTicket | acknowledgeTicket | setNoticeLevels | setNoticeFilter | cancelMode | setWakeTable | closeJob =>
    exact request_circ h hs (by simp [registerRodTaken, restoreRodTaken])

end

/-- Settles O8: the balance sets an alarm after clearing the other (`updateAlarms_alarmsApart`), the entry to SETUP and power-on
clear both, and no other command touches them. -/
theorem stepKeepsAlarmsApart : Obligations.StepKeepsAlarmsApart := fun s t hs h =>
  step_keeps AlarmsApart (fun _ _ h => h) (fun c _ _ hs h => exec_alarmsApart c hs h) s t hs h

end Sys2Proof.Machine

namespace Sys2Proof.Machine

/-! ### The sample register (R106) -/

theorem insertSample_perm (r : Sample) (xs : List Sample) : (insertSample r xs).Perm (r :: xs) := by
  induction xs with
  | nil => exact .rfl
  | cons x xs ih =>
    unfold insertSample
    split
    · exact .rfl
    · exact (ih.cons x).trans (.swap r x xs)

/-- R106: a record of a new number leaves the register in ascending order. -/
theorem insertSample_ascending {r : Sample} {xs : List Sample} (h : (xs.map Sample.number).Pairwise (· < ·))
    (hnew : r.number ∉ xs.map Sample.number) : ((insertSample r xs).map Sample.number).Pairwise (· < ·) := by
  induction xs with
  | nil => simp [insertSample]
  | cons x xs ih =>
    obtain ⟨hhead, htail⟩ := List.pairwise_cons.mp h
    simp only [List.map_cons, List.mem_cons, not_or] at hnew
    unfold insertSample
    split
    next hlt => exact List.pairwise_cons.mpr ⟨List.forall_mem_cons.mpr ⟨hlt, fun n hn => Nat.lt_trans hlt (hhead n hn)⟩, h⟩
    next hge =>
      refine List.pairwise_cons.mpr ⟨fun n hn => ?_, ih htail hnew.2⟩
      rcases List.mem_cons.mp (((insertSample_perm r xs).map Sample.number).mem_iff.mp hn) with rfl | hn
      · omega
      · exact hhead n hn

/-! ### The numbers of the samples (R91, R93, R106) -/

/-- What `SamplesAccounted` looks at: the numbers in the queue and in the register, and the next number. -/
structure SampleView where
  queued : List Nat
  registered : List Nat
  next : Nat

def sampleView (s : State) : SampleView :=
  ⟨s.lag.queue.map LagEntry.number, s.log.samples.map Sample.number, s.lag.nextSample⟩

section
open scoped List
variable {s t : State} {e : LagEntry} {r : Sample} {rest : List LagEntry}

theorem samplesAccounted_congr (h : sampleView t = sampleView s) (hs : SamplesAccounted s) : SamplesAccounted t := by
  simp only [sampleView, SampleView.mk.injEq] at h
  obtain ⟨hqueued, hregistered, hnext⟩ := h
  have hlength : t.lag.queue.length = s.lag.queue.length := by simpa using congrArg List.length hqueued
  simpa only [SamplesAccounted, hqueued, hregistered, hnext, hlength] using hs

/-- R91: a number issued is below the next. -/
theorem lt_nextSample (hs : SamplesAccounted s) {n : Nat}
    (h : n ∈ s.lag.queue.map LagEntry.number ∨ n ∈ s.log.samples.map Sample.number) : n < s.lag.nextSample := by
  obtain ⟨hperm, -, -, -, hpos⟩ := hs
  have hn := List.mem_range'_1.mp (hperm.mem_iff.mp (List.mem_append.mpr h))
  omega

/-- R91: the numbers issued once the next has been. -/
theorem range'_nextSample {n : Nat} (h : 1 ≤ n) : List.range' 1 (n + 1 - 1) = List.range' 1 (n - 1) ++ [n] := by
  obtain ⟨k, rfl⟩ := Nat.exists_eq_add_of_le h
  rw [show 1 + k + 1 - 1 = k + 1 by omega, show 1 + k - 1 = k by omega, List.range'_1_concat]

/-- R92, R93: the next number joins the tail of a queue with room. -/
theorem samplesAccounted_of_queued (hs : SamplesAccounted s) (hroom : s.lag.queue.length < Config.maxLag)
    (he : e.number = s.lag.nextSample) (hqueue : t.lag.queue = s.lag.queue ++ [e])
    (hsamples : t.log.samples = s.log.samples) (hnext : t.lag.nextSample = s.lag.nextSample + 1) :
    SamplesAccounted t := by
  have hbelow : ∀ n ∈ s.lag.queue.map LagEntry.number, n < s.lag.nextSample := fun n hn => lt_nextSample hs (.inl hn)
  obtain ⟨hperm, hqueued, hregistered, -, hpos⟩ := hs
  rw [SamplesAccounted, hqueue, hsamples, hnext, range'_nextSample hpos, List.map_append, List.map_singleton, he,
    List.append_assoc]
  refine ⟨?_, ?_, hregistered, ?_, by omega⟩
  · exact (List.perm_append_comm.append_left _).trans (by simpa using hperm.append_right [s.lag.nextSample])
  · exact List.pairwise_append.mpr ⟨hqueued, by simp, by simpa using hbelow⟩
  · rw [List.length_append, List.length_singleton]
    exact hroom

/-- R92, R106: with a full queue the next number goes to the register. -/
theorem samplesAccounted_of_missed (hs : SamplesAccounted s) (hr : r.number = s.lag.nextSample)
    (hqueue : t.lag.queue = s.lag.queue) (hsamples : t.log.samples = insertSample r s.log.samples)
    (hnext : t.lag.nextSample = s.lag.nextSample + 1) : SamplesAccounted t := by
  have hnew : r.number ∉ s.log.samples.map Sample.number := fun hmem =>
    absurd (lt_nextSample hs (.inr hmem)) (by omega)
  obtain ⟨hperm, hqueued, hregistered, hlength, hpos⟩ := hs
  rw [SamplesAccounted, hqueue, hsamples, hnext, range'_nextSample hpos]
  refine ⟨?_, hqueued, insertSample_ascending hregistered hnew, hlength, by omega⟩
  calc s.lag.queue.map LagEntry.number ++ (insertSample r s.log.samples).map Sample.number
    _ ~ s.lag.queue.map LagEntry.number ++ r.number :: s.log.samples.map Sample.number :=
      ((insertSample_perm r _).map Sample.number).append_left _
    _ ~ r.number :: (s.lag.queue.map LagEntry.number ++ s.log.samples.map Sample.number) := List.perm_middle
    _ ~ s.lag.nextSample :: List.range' 1 (s.lag.nextSample - 1) := by
      rw [hr]
      exact hperm.cons _
    _ ~ List.range' 1 (s.lag.nextSample - 1) ++ [s.lag.nextSample] := List.perm_append_singleton _ _ |>.symm

/-- R97, R98, R100, R106: the head of the queue goes to the register. -/
theorem samplesAccounted_of_arrival (hs : SamplesAccounted s) (hhead : s.lag.queue = e :: rest)
    (hr : r.number = e.number) (hqueue : t.lag.queue = rest) (hsamples : t.log.samples = insertSample r s.log.samples)
    (hnext : t.lag.nextSample = s.lag.nextSample) : SamplesAccounted t := by
  obtain ⟨hperm, hqueued, hregistered, hlength, hpos⟩ := hs
  rw [hhead, List.map_cons] at hperm hqueued
  rw [hhead, List.length_cons] at hlength
  have hnew : r.number ∉ s.log.samples.map Sample.number := by
    have hnodup := hperm.nodup_iff.mpr List.nodup_range'
    rw [List.cons_append, List.nodup_cons] at hnodup
    exact fun hmem => hnodup.1 (List.mem_append_right _ (hr ▸ hmem))
  rw [SamplesAccounted, hqueue, hsamples, hnext]
  refine ⟨?_, hqueued.of_cons, insertSample_ascending hregistered hnew, by omega, hpos⟩
  calc rest.map LagEntry.number ++ (insertSample r s.log.samples).map Sample.number
    _ ~ rest.map LagEntry.number ++ r.number :: s.log.samples.map Sample.number :=
      ((insertSample_perm r _).map Sample.number).append_left _
    _ ~ e.number :: rest.map LagEntry.number ++ s.log.samples.map Sample.number := hr ▸ List.perm_middle
    _ ~ List.range' 1 (s.lag.nextSample - 1) := hperm

end
end Sys2Proof.Machine

namespace Sys2Proof.Machine

/-! ### What the lag unit does to the samples (R92, R97, R98, R100) -/

section
variable {s t : State} {e : LagEntry} {rest : List LagEntry}

@[simp] theorem registerSample_samples (number origin : Nat) (status : SampleStatus) (caught : Bool) (s : State) :
    (registerSample number origin status caught s).log.samples =
      insertSample { number := number, origin := origin, status := status, arrival := s.job.clock, caught := caught }
        s.log.samples := rfl

@[simp] theorem arrive_samples (e : LagEntry) (status : SampleStatus) (caught : Bool) (s : State) :
    (arrive e status caught s).log.samples =
      insertSample { number := e.number, origin := e.origin, status := status, arrival := s.job.clock, caught := caught }
        s.log.samples := rfl

/-- R93: the entry that a mark joins the queue with. -/
def issuedEntry (annular : Option Nat) (s : State) (mark : Nat) : LagEntry :=
  { number := s.lag.nextSample, origin := mark, issued := s.job.clock, target := targetOf s annular,
    quality := worstChannel s.circ, strokesHeld := strokesRejected s.circ }

/-- R92, R93: the lag unit once a mark has joined the queue. -/
def sampleQueued (annular : Option Nat) (s : State) (mark : Nat) : State :=
  s.setLag { s.lag with nextSample := s.lag.nextSample + 1, queue := s.lag.queue ++ [issuedEntry annular s mark] }

/-- R92, R106: a mark whose sample has gone straight to the register. -/
def sampleMissed (s : State) (mark : Nat) : State :=
  raise .sampleMissed s.lag.nextSample mark
    (registerSample s.lag.nextSample mark .missed false (s.setLag { s.lag with nextSample := s.lag.nextSample + 1 }))

theorem issueSample_room (annular : Option Nat) (mark : Nat) (h : s.lag.queue.length < Config.maxLag) :
    issueSample annular s mark = sampleQueued annular s mark := if_neg (Nat.not_le.mpr h)

theorem issueSample_full (annular : Option Nat) (mark : Nat) (h : Config.maxLag ≤ s.lag.queue.length) :
    issueSample annular s mark = sampleMissed s mark := if_pos h

theorem issueSample_samplesAccounted (annular : Option Nat) (mark : Nat) (hs : SamplesAccounted s) :
    SamplesAccounted (issueSample annular s mark) := by
  rcases Nat.lt_or_ge s.lag.queue.length Config.maxLag with hroom | hfull
  · rw [issueSample_room annular mark hroom]
    exact samplesAccounted_of_queued (e := issuedEntry annular s mark) hs hroom rfl rfl rfl rfl
  · rw [issueSample_full annular mark hfull]
    exact samplesAccounted_of_missed (r := ⟨s.lag.nextSample, mark, .missed, s.job.clock, false⟩) hs rfl rfl rfl rfl

theorem sampleView_noteBelowProgram (z : Nat) (s : State) : sampleView (noteBelowProgram z s) = sampleView s := by
  unfold noteBelowProgram
  split <;> rfl

/-- R92: the marks of an increment from the hole depth `a` to `b`. -/
def marksOf (a b : Nat) (s : State) : List Nat := marksIn (startDepth s) (s.job.interval.getD 0) a b

/-- R90, R94: the annular volume that the samples of an increment are timed by, absent without a casing program. -/
def annularTimed (s : State) : Option Nat :=
  if s.lag.program.isEmpty then none else some (annularVolume s (bitDepthGiven s))

theorem issueSamples_nil {a b : Nat} (h : marksOf a b s = []) : issueSamples a b s = s := by
  unfold issueSamples
  rw [show marksIn _ _ a b = [] from h]

/-- R92: an increment with marks issues them one by one. -/
theorem issueSamples_marks {a b : Nat} (h : marksOf a b s ≠ []) :
    issueSamples a b s =
      (marksOf a b s).foldl (issueSample (annularTimed s)) (noteBelowProgram (bitDepthGiven s) s) := by
  unfold issueSamples
  split
  next hnil => exact absurd hnil h
  next => rfl

theorem issueSamples_samplesAccounted (a b : Nat) (hs : SamplesAccounted s) : SamplesAccounted (issueSamples a b s) := by
  by_cases hmarks : marksOf a b s = []
  · rwa [issueSamples_nil hmarks]
  · rw [issueSamples_marks hmarks]
    refine List.foldlRecOn (marksOf a b s) _ (samplesAccounted_congr (sampleView_noteBelowProgram _ s) hs) ?_
    exact fun _ ht mark _ => issueSample_samplesAccounted _ mark ht

/-- R97, R98: the head arrives. -/
theorem arrive_samplesAccounted (status : SampleStatus) (caught : Bool) (hhead : s.lag.queue = e :: rest)
    (hs : SamplesAccounted s) :
    SamplesAccounted (arrive e status caught (s.setLag { s.lag with queue := s.lag.queue.tail })) :=
  samplesAccounted_of_arrival (r := ⟨e.number, e.origin, status, s.job.clock, caught⟩) hs hhead rfl
    (by simp [hhead]) (by simp) (by simp)

/-- R97: what is due is the head of the queue. -/
theorem queue_of_headDue (h : headDue s = some e) : s.lag.queue = e :: s.lag.queue.tail := by
  unfold headDue at h
  split at h
  next x rest hqueue =>
    split at h
    · split at h <;> simp_all
    · cases h
  next => cases h

theorem releaseHead_samplesAccounted (hs : SamplesAccounted s) : SamplesAccounted (releaseHead s) := by
  unfold releaseHead
  split
  next e hdue => exact arrive_samplesAccounted _ _ (queue_of_headDue hdue) hs
  next => exact hs

theorem releaseUpTo_samplesAccounted (fuel : Nat) (hs : SamplesAccounted s) : SamplesAccounted (releaseUpTo fuel s) := by
  induction fuel generalizing s with
  | zero => exact hs
  | succ fuel ih =>
    unfold releaseUpTo
    split
    · exact ih (releaseHead_samplesAccounted hs)
    · exact hs

theorem releaseArrivals_samplesAccounted (hs : SamplesAccounted s) : SamplesAccounted (releaseArrivals s) :=
  releaseUpTo_samplesAccounted _ hs

/-- R95: the entries see the channels and keep their numbers. -/
theorem lagHandOff_samplesAccounted (flowOut : Nat) (hs : SamplesAccounted s) : SamplesAccounted (lagHandOff flowOut s) := by
  refine releaseArrivals_samplesAccounted (samplesAccounted_congr ?_ hs)
  have hnumber : LagEntry.number ∘ seeChannels s.circ = LagEntry.number := rfl
  simp [sampleView, hnumber]

/-- R100: a queue abandoned entry by entry, head first. -/
theorem abandonEntries_samplesAccounted (queue : List LagEntry)
    (hs : SamplesAccounted (s.setLag { s.lag with queue := queue })) :
    SamplesAccounted ((queue.foldl (fun s e => registerSample e.number e.origin .abandoned false s) s).setLag
      { s.lag with queue := [] }) := by
  induction queue generalizing s with
  | nil => exact hs
  | cons e rest ih =>
    refine ih (s := registerSample e.number e.origin .abandoned false s) ?_
    exact samplesAccounted_of_arrival (r := ⟨e.number, e.origin, .abandoned, s.job.clock, false⟩) hs rfl rfl rfl rfl rfl

theorem abandonQueue_samplesAccounted (hs : SamplesAccounted s) : SamplesAccounted (abandonQueue s) :=
  abandonEntries_samplesAccounted s.lag.queue hs

/-- R98: the caught flag of a record does not touch its number. -/
theorem markCaught_numbers (number : Nat) (xs : List Sample) :
    (markCaught number xs).map Sample.number = xs.map Sample.number := by
  rw [markCaught, List.map_map]
  refine List.map_congr_left fun r _ => ?_
  simp only [Function.comp_apply]
  split <;> rfl

/-- R98, check 3: the entry named is the head of the queue. -/
theorem queue_of_headNamed {number : Nat} (h : headNamed number s = some e) :
    s.lag.queue = e :: s.lag.queue.tail := by
  unfold headNamed at h
  split at h
  · split at h <;> simp_all
  · cases h

theorem sampleCaughtTaken_samplesAccounted (number : Nat) (hs : SamplesAccounted s) :
    SamplesAccounted (sampleCaughtTaken number s).state := by
  unfold sampleCaughtTaken
  split
  next hhead => exact releaseArrivals_samplesAccounted (arrive_samplesAccounted _ _ (queue_of_headNamed hhead) hs)
  next =>
    split
    · exact samplesAccounted_congr (by simp [sampleView, markCaught_numbers]) hs
    · split <;> exact hs

end

end Sys2Proof.Machine

namespace Sys2Proof.Machine

/-! ### What leaves the samples alone -/

section
variable {s t : State}

@[simp] theorem modifyInterval_samples (n : Nat) (f : Interval → Interval) (g : StrataLog) :
    (modifyInterval n f g).samples = g.samples := rfl

@[simp] theorem modifyDetector_samples (f : Detector → Detector) (g : StrataLog) :
    (modifyDetector f g).samples = g.samples := rfl

@[simp] theorem mergeLog_samples (index : Nat) (g : StrataLog) : (mergeLog index g).samples = g.samples := by
  unfold mergeLog
  simp only
  split <;> rfl

@[simp] theorem splitLog_samples (start hole d : Nat) (g : StrataLog) : (splitLog start hole d g).samples = g.samples := by
  unfold splitLog
  simp only
  split <;> rfl

@[simp] theorem postBand_samples (n : Nat) (s : State) : (postBand n s).log.samples = s.log.samples := by
  unfold postBand
  simp only
  split <;> simp

@[simp] theorem postUnclassified_samples (s : State) : (postUnclassified s).log.samples = s.log.samples :=
  foldl_keeps (fun s => s.log.samples) _ (by intros; split <;> simp) _ _

@[simp] theorem classifyTaken_samples (n : Nat) (l : Option Nat) (b : Option Band) (s : State) :
    (classifyTaken n l b s).log.samples = s.log.samples := by simp [classifyTaken]

@[simp] theorem mergeTaken_samples (n : Nat) (s : State) : (mergeTaken n s).log.samples = s.log.samples := by
  unfold mergeTaken
  simp only
  split <;> simp

@[simp] theorem setBandRatesTaken_samples (rates : List Nat) (b : Band) (s : State) :
    (setBandRatesTaken rates b s).log.samples = s.log.samples := by
  unfold setBandRatesTaken
  simp only
  split <;> simp

@[simp] theorem chargeLoss_samples (v z : Nat) (s : State) : (chargeLoss v z s).log.samples = s.log.samples := rfl

@[simp] theorem proposeStrike_samples (z : Nat) (s : State) : (proposeStrike z s).log.samples = s.log.samples := by
  unfold proposeStrike
  simp only
  split <;> simp

@[simp] theorem tellStrata_samples (d : Option Int) (e : Nat) (gainSet : Bool) (s : State) :
    (tellStrata d e gainSet s).log.samples = s.log.samples := by
  unfold tellStrata
  simp only
  split <;> split <;> simp

@[simp] theorem logSecond_samples (s : State) : (logSecond s).log.samples = s.log.samples := by
  unfold logSecond
  split <;> rfl

@[simp] theorem logEnterSetup_samples (s : State) : (logEnterSetup s).log.samples = s.log.samples := rfl

theorem raise_samplesAccounted (k : NoticeKind) (a b : Nat) (hs : SamplesAccounted s) : SamplesAccounted (raise k a b s) :=
  hs

theorem setDepth_samplesAccounted (d : Depth) (hs : SamplesAccounted s) : SamplesAccounted (s.setDepth d) := hs

/-! ### Changes of mode and answers keep the samples accounted (R100, R175) -/

theorem enterSetupSteps_samplesAccounted (hs : SamplesAccounted s) : SamplesAccounted (enterSetupSteps s) :=
  samplesAccounted_congr (by simp [sampleView, enterSetupSteps]) (abandonQueue_samplesAccounted hs)

theorem setMode_samplesAccounted (m : Mode) (hs : SamplesAccounted s) : SamplesAccounted (setMode m s) := by
  have hdriven := samplesAccounted_congr (t := drivePermits (s.setModes { s.modes with mode := m })) (by rfl) hs
  unfold setMode
  simp only
  split
  · exact hs
  · refine samplesAccounted_congr (s := if m = .setup then enterSetupSteps _ else _) (by rfl) ?_
    split
    · exact enterSetupSteps_samplesAccounted hdriven
    · exact hdriven

theorem takeMode_samplesAccounted (m : Mode) (hs : SamplesAccounted s) : SamplesAccounted (takeMode m s) :=
  setMode_samplesAccounted m hs

theorem recheck_samplesAccounted (hs : SamplesAccounted s) : SamplesAccounted (recheck s) := by
  unfold recheck
  split
  · split
    · exact takeMode_samplesAccounted _ hs
    · exact hs
  · exact hs

theorem wakeEvent_samplesAccounted (w : WakeSource) (hs : SamplesAccounted s) : SamplesAccounted (wakeEvent w s) := by
  have hnoted : ∀ c k a b, SamplesAccounted (raiseIf c k a b s) := fun _ _ _ _ =>
    samplesAccounted_congr (by simp [sampleView]) hs
  unfold wakeEvent
  simp only
  split
  · split
    · exact recheck_samplesAccounted (setMode_samplesAccounted _ (hnoted ..))
    · exact hnoted ..
  · exact hs

theorem keptByAnswer_samplesAccounted : KeptByAnswer SamplesAccounted where
  reply _ _ _ _ _ := samplesAccounted_congr (by rfl)
  wakes ws _ hs := List.foldlRecOn ws _ hs fun _ ht w _ => wakeEvent_samplesAccounted w ht
  zeros _ _ := samplesAccounted_congr (by rfl)

/-! ### The depth computation issues samples (R56, R92) -/

theorem sampleView_handIncrement (a b : Nat) (s : State) :
    sampleView (handIncrement a b s) = sampleView (issueSamples a b s) := by
  simp only [sampleView, handIncrement_log]
  simp [handIncrement_eq]

theorem advanceHole_samplesAccounted (raw hole : Nat) (hs : SamplesAccounted s) :
    SamplesAccounted (advanceHole raw hole s) := by
  unfold advanceHole
  simp only
  have hhanded : ∀ d, SamplesAccounted (if hole < advancedHole raw hole then
      handIncrement hole (advancedHole raw hole) (s.setDepth d) else s.setDepth d) := by
    intro d
    split
    · exact samplesAccounted_congr (sampleView_handIncrement ..) (issueSamples_samplesAccounted _ _ hs)
    · exact hs
  split
  · exact raise_samplesAccounted _ _ _ (setDepth_samplesAccounted _ (hhanded _))
  · exact hhanded _

theorem holeStep_samplesAccounted (raw : Nat) (hs : SamplesAccounted s) : SamplesAccounted (holeStep raw s) := by
  unfold holeStep
  split
  · split
    · exact hs
    · split
      · exact advanceHole_samplesAccounted _ _ hs
      · exact samplesAccounted_congr (by simp [sampleView, clampToHole]) hs
  · exact hs

theorem depthCompute_samplesAccounted (hs : SamplesAccounted s) : SamplesAccounted (depthCompute s) := by
  unfold depthCompute
  split
  · exact hs
  · simp only
    split
    · exact hs
    · exact holeStep_samplesAccounted _ hs

/-! ### Moves, reports, seconds and jobs -/

theorem recheck_depthCompute_samplesAccounted (hs : SamplesAccounted s) : SamplesAccounted (recheck (depthCompute s)) :=
  recheck_samplesAccounted (depthCompute_samplesAccounted hs)

theorem moveTo_samplesAccounted (x : Tally) (hs : SamplesAccounted s) : SamplesAccounted (moveTo x s) :=
  samplesAccounted_congr (by rfl) hs

theorem sampleView_refuseMove (code : Nat) (c : ReplyCode) (s : State) :
    sampleView (refuseMove code c s).state = sampleView s := by
  unfold refuseMove
  split <;> rfl

theorem setSlipsTaken_samplesAccounted (hs : SamplesAccounted s) : SamplesAccounted (setSlipsTaken s) :=
  recheck_depthCompute_samplesAccounted (samplesAccounted_congr (s := s) rfl hs)

theorem releaseSlipsTaken_samplesAccounted (hs : SamplesAccounted s) : SamplesAccounted (releaseSlipsTaken s) :=
  recheck_depthCompute_samplesAccounted (samplesAccounted_congr (s := s) rfl hs)

theorem breakJointTaken_samplesAccounted (hs : SamplesAccounted s) : SamplesAccounted (breakJointTaken s) :=
  recheck_depthCompute_samplesAccounted (samplesAccounted_congr (s := s) rfl hs)

theorem resolveToString_samplesAccounted (hs : SamplesAccounted s) : SamplesAccounted (resolveToString s) :=
  recheck_depthCompute_samplesAccounted (samplesAccounted_congr (s := s) rfl hs)

theorem countJoint_samplesAccounted (serials : List Nat) (hs : SamplesAccounted s) :
    SamplesAccounted (countJoint serials s) := samplesAccounted_congr (by simp [sampleView]) hs

theorem makeJointTaken_samplesAccounted (hs : SamplesAccounted s) : SamplesAccounted (makeJointTaken s) :=
  recheck_samplesAccounted (countJoint_samplesAccounted _ 
    (depthCompute_samplesAccounted (samplesAccounted_congr (s := s) rfl hs)))

theorem pickRodTaken_samplesAccounted (slot : Nat) (hs : SamplesAccounted s) : SamplesAccounted (pickRodTaken slot s) :=
  recheck_samplesAccounted (samplesAccounted_congr (by simp [sampleView]) hs)

theorem rackHeldRod_samplesAccounted (slot : Nat) (hs : SamplesAccounted s) : SamplesAccounted (rackHeldRod slot s) :=
  recheck_samplesAccounted (moveTo_samplesAccounted _ hs)

theorem layOutHeldRod_samplesAccounted (hs : SamplesAccounted s) : SamplesAccounted (layOutHeldRod s) :=
  recheck_samplesAccounted (moveTo_samplesAccounted _ hs)

theorem resolveTaken_samplesAccounted (destination slot : Nat) (hs : SamplesAccounted s) :
    SamplesAccounted (resolveTaken destination slot s) := by
  unfold resolveTaken
  split
  · exact resolveToString_samplesAccounted hs
  · exact rackHeldRod_samplesAccounted slot hs
  · exact layOutHeldRod_samplesAccounted hs

theorem setStatus_samplesAccounted (x : CircStatus) (hs : SamplesAccounted s) : SamplesAccounted (setStatus x s) := by
  unfold setStatus
  split
  · exact hs
  · exact recheck_samplesAccounted hs

/-- R66, R80: of the stages of a report, the change of status and the hand-off reach the samples. -/
theorem reportStages_samplesAccounted (p1 p2 flowOut pit : Nat) (hs : SamplesAccounted s) :
    SamplesAccounted (reportStages p1 p2 flowOut pit s) := by
  unfold reportStages
  extract_lets e _ judged counted used d balanced told
  have hjudged : SamplesAccounted judged :=
    samplesAccounted_congr (by simp [judged, stageChannels_eq, sampleView]) hs
  have hcounted : SamplesAccounted counted := by
    simp only [counted, stageVolume_eq, stageStatus_eq]
    exact setStatus_samplesAccounted _ hjudged
  have htold : sampleView told = sampleView counted := by
    simp [told, balanced, d, used, stageBalance_eq, sampleView]
  exact lagHandOff_samplesAccounted _ (samplesAccounted_congr htold hcounted)

theorem reportTaken_samplesAccounted (p1 p2 flowOut pit : Nat) (hs : SamplesAccounted s) :
    SamplesAccounted (reportTaken p1 p2 flowOut pit s).state := by
  simp only [reportTaken_eq, taken_state]
  exact reportStages_samplesAccounted p1 p2 flowOut pit hs

theorem expireStab_samplesAccounted (hs : SamplesAccounted s) : SamplesAccounted (expireStab s) := by
  unfold expireStab
  split
  · exact recheck_samplesAccounted (samplesAccounted_congr (s := s) (by rfl) hs)
  · exact hs

theorem makeStale_samplesAccounted (hs : SamplesAccounted s) : SamplesAccounted (makeStale s) := by
  unfold makeStale
  split
  · exact recheck_samplesAccounted hs
  · exact hs

theorem permitReadback_samplesAccounted (pins : SensePins) (hs : SamplesAccounted s) :
    SamplesAccounted (permitReadback pins s) := by
  unfold permitReadback
  simp only
  split
  · exact recheck_samplesAccounted (samplesAccounted_congr (by simp [sampleView, sensePermits]) hs)
  · exact samplesAccounted_congr (by simp [sampleView, sensePermits]) hs

theorem secondComparison_samplesAccounted (q : Permit) (sense : Bool) (hs : SamplesAccounted s) :
    SamplesAccounted (secondComparison q sense s) := by
  unfold secondComparison
  simp only
  split
  · exact recheck_samplesAccounted hs
  · exact hs

theorem secondPasses_samplesAccounted (pins : SensePins) (hs : SamplesAccounted s) :
    SamplesAccounted (secondPasses pins s) := by
  have hcounted : SamplesAccounted (wearSecond (advanceSeconds (overdueExpiries s))) :=
    samplesAccounted_congr (by simp [sampleView, advanceSeconds, overdueExpiries])
      (makeStale_samplesAccounted (expireStab_samplesAccounted hs))
  exact samplesAccounted_congr (by simp [sampleView, secondPasses]) (permitReadback_samplesAccounted pins hcounted)

theorem blockTaken_samplesAccounted (height : Nat) (rotation : Bool) (hs : SamplesAccounted s) :
    SamplesAccounted (blockTaken height rotation s) := depthCompute_samplesAccounted hs

/-- R194: a new job starts with no sample issued. -/
theorem openJobTaken_samplesAccounted (number start interval : Nat) (s : State) :
    SamplesAccounted (openJobTaken number start interval s) :=
  depthCompute_samplesAccounted (by simp [SamplesAccounted, logOpenJob])

/-! ### Power (R101, R107, R196 to R198) -/

theorem sampleView_chooseMode (s : State) : sampleView (chooseMode s) = sampleView s := by
  unfold chooseMode
  simp only
  split <;> rfl

theorem sampleView_countPowerEvent (s : State) : sampleView (countPowerEvent s) = sampleView s := by
  rw [countPowerEvent_eq]
  rfl

theorem sampleView_checkTally (s : State) : sampleView (checkTally s) = sampleView s := by
  unfold checkTally
  split <;> rfl

/-- R196, R198: the queue, the register and the next number are retained, or the factory's. -/
theorem readStore_samplesAccounted (valid : Bool) (hs : SamplesAccounted s) :
    SamplesAccounted (readStore valid (volatileReset s)) := by
  cases valid with
  | true => exact hs
  | false =>
    obtain ⟨-, -, -, -, hreset, -⟩ := resetMeetsInvariants
    exact hreset

theorem powerUp_samplesAccounted (valid : Bool) (hs : SamplesAccounted s) : SamplesAccounted (powerUp valid s) := by
  refine samplesAccounted_congr ?_ (readStore_samplesAccounted valid hs)
  calc sampleView (powerUp valid s)
    _ = sampleView (checkTally (countPowerEvent (chooseMode (readStore valid (volatileReset s))))) := rfl
    _ = sampleView (readStore valid (volatileReset s)) := by
      rw [sampleView_checkTally, sampleView_countPowerEvent, sampleView_chooseMode]

theorem execPowerOn_samplesAccounted {valid : Bool} (hs : SamplesAccounted s) (h : execPowerOn valid s = .next t) :
    SamplesAccounted t := by
  unfold execPowerOn at h
  split at h <;> cases h
  · exact powerUp_samplesAccounted valid hs
  · exact powerUp_samplesAccounted valid hs
  · exact hs
  · exact hs

theorem execResetAsserted_samplesAccounted (hs : SamplesAccounted s) (h : execResetAsserted s = .next t) :
    SamplesAccounted t := by
  unfold execResetAsserted at h
  split at h <;> cases h <;> exact hs

theorem execResetReleased_samplesAccounted {valid : Bool} (hs : SamplesAccounted s)
    (h : execResetReleased valid s = .next t) : SamplesAccounted t := by
  unfold execResetReleased at h
  split at h <;> cases h
  · exact powerUp_samplesAccounted valid hs
  · exact hs
  · exact hs
  · exact hs

theorem execReadTransaction_samplesAccounted {p : Port} {clocked : Nat} (hs : SamplesAccounted s)
    (h : execReadTransaction p clocked s = .next t) : SamplesAccounted t := by
  unfold execReadTransaction at h
  split at h <;> cases h <;> exact hs

/-! ### Every command keeps the samples accounted (R91, R93, R106) -/

section
variable {p : Port} {code : Nat} {checks : State → List (Bool × ReplyCode)}

/-- A checked request whose effect touches no sample. -/
theorem request_sampleView {r : State → Response} (h : request p code (fun s => checked (checks s) s (r s)) s = .next t)
    (hs : SamplesAccounted s) (hr : sampleView (r s).state = sampleView s) : SamplesAccounted t :=
  request_checked_keeps keptByAnswer_samplesAccounted h hs fun _ => samplesAccounted_congr hr hs

/-- A move whose effect keeps the samples accounted: its refusals touch none. -/
theorem moveRequest_samplesAccounted {effect : State → State} (h : moveRequest p code checks effect s = .next t)
    (hs : SamplesAccounted s) (he : SamplesAccounted (effect s)) : SamplesAccounted t :=
  moveRequest_keeps keptByAnswer_samplesAccounted h hs
    (fun c => samplesAccounted_congr (sampleView_refuseMove code c s) hs) fun _ => he

theorem execReleaseSlips_samplesAccounted {pins : SensePins} (hs : SamplesAccounted s)
    (h : execReleaseSlips p pins s = .next t) : SamplesAccounted t := by
  have hsensed := samplesAccounted_congr (s := s) (t := sensePermits pins s) rfl hs
  refine writeTransaction_keeps keptByAnswer_samplesAccounted h hs (respond_keeps keptByAnswer_samplesAccounted ?_)
  exact judgedMove_keeps (fun c => samplesAccounted_congr (sampleView_refuseMove _ c _) hsensed)
    fun _ => releaseSlipsTaken_samplesAccounted hsensed

theorem execReadTally_samplesAccounted {pins : SensePins} (hs : SamplesAccounted s)
    (h : execReadTally p pins s = .next t) : SamplesAccounted t :=
  writeTransaction_keeps keptByAnswer_samplesAccounted h hs (respond_keeps keptByAnswer_samplesAccounted hs)

theorem execBadFrame_samplesAccounted (hs : SamplesAccounted s) (h : execBadFrame p code s = .next t) :
    SamplesAccounted t := writeTransaction_keeps keptByAnswer_samplesAccounted h hs hs

theorem execUnknownRequest_samplesAccounted (hs : SamplesAccounted s) (h : execUnknownRequest p code s = .next t) :
    SamplesAccounted t := writeTransaction_keeps keptByAnswer_samplesAccounted h hs hs

theorem execEnterSetup_samplesAccounted (hs : SamplesAccounted s) (h : execEnterSetup p s = .next t) :
    SamplesAccounted t := by
  refine request_checked_keeps keptByAnswer_samplesAccounted h hs fun _ => ?_
  split
  · exact takeMode_samplesAccounted _ hs
  · exact hs

theorem execEnterRun_samplesAccounted (hs : SamplesAccounted s) (h : execEnterRun p s = .next t) :
    SamplesAccounted t := by
  refine request_checked_keeps keptByAnswer_samplesAccounted h hs fun _ => ?_
  split
  · exact hs
  · exact takeMode_samplesAccounted _ hs

theorem execEnterStandby_samplesAccounted (hs : SamplesAccounted s) (h : execEnterStandby p s = .next t) :
    SamplesAccounted t := by
  refine request_keeps keptByAnswer_samplesAccounted h hs ?_
  split
  · exact hs
  · split
    · exact takeMode_samplesAccounted _ hs
    · exact hs

end

theorem exec_samplesAccounted (c : Instr) (hs : SamplesAccounted s) (h : exec c s = .next t) : SamplesAccounted t := by
  cases c with
  | sampleArrival => exact whileRunning_keeps h hs (releaseHead_samplesAccounted hs)
  | sampleCaught =>
    exact request_checked_keeps keptByAnswer_samplesAccounted h hs fun _ => sampleCaughtTaken_samplesAccounted _ hs
  | circulation =>
    exact request_checked_keeps keptByAnswer_samplesAccounted h hs fun _ => reportTaken_samplesAccounted _ _ _ _ hs
  | block =>
    exact request_checked_keeps keptByAnswer_samplesAccounted h hs fun _ => blockTaken_samplesAccounted _ _ hs
  | setBha =>
    exact request_checked_keeps keptByAnswer_samplesAccounted h hs fun _ => depthCompute_samplesAccounted hs
  | openJob =>
    exact request_checked_keeps keptByAnswer_samplesAccounted h hs fun _ => openJobTaken_samplesAccounted _ _ _ s
  | setSlips => exact moveRequest_samplesAccounted h hs (setSlipsTaken_samplesAccounted hs)
  | releaseSlips => exact execReleaseSlips_samplesAccounted hs h
  | breakJoint => exact moveRequest_samplesAccounted h hs (breakJointTaken_samplesAccounted hs)
  | makeJoint => exact moveRequest_samplesAccounted h hs (makeJointTaken_samplesAccounted hs)
  | pickRod => exact moveRequest_samplesAccounted h hs (pickRodTaken_samplesAccounted _ hs)
  | rackRod => exact moveRequest_samplesAccounted h hs (rackHeldRod_samplesAccounted _ hs)
  | layOutRod => exact moveRequest_samplesAccounted h hs (layOutHeldRod_samplesAccounted hs)
  | resolveRod => exact moveRequest_samplesAccounted h hs (resolveTaken_samplesAccounted _ _ hs)
  | unlatch | latch | stab =>
    exact moveRequest_samplesAccounted h hs (recheck_samplesAccounted (moveTo_samplesAccounted _ hs))
  | circStale => exact whileRunning_keeps h hs (makeStale_samplesAccounted hs)
  | deviceSecond => exact whileRunning_keeps h hs (secondPasses_samplesAccounted _ hs)
  | makeupExpired => exact whileRunning_keeps h hs (expireStab_samplesAccounted hs)
  | permitFault => exact whileRunning_keeps h hs (secondComparison_samplesAccounted _ _ hs)
  | pendingModeTaken => exact whileRunning_keeps h hs (recheck_samplesAccounted hs)
  | powerOn => exact execPowerOn_samplesAccounted hs h
  | resetAsserted => exact execResetAsserted_samplesAccounted hs h
  | resetReleased => exact execResetReleased_samplesAccounted hs h
  | powerLoss => cases h; exact hs
  | readTransaction => exact execReadTransaction_samplesAccounted hs h
  | enterSetup => exact execEnterSetup_samplesAccounted hs h
  | enterRun => exact execEnterRun_samplesAccounted hs h
  | enterWatch => exact request_checked_keeps keptByAnswer_samplesAccounted h hs fun _ => takeMode_samplesAccounted _ hs
  | enterStandby => exact execEnterStandby_samplesAccounted hs h
  | readTally => exact execReadTally_samplesAccounted hs h
  | badFrame => exact execBadFrame_samplesAccounted hs h
  | unknownRequest => exact execUnknownRequest_samplesAccounted hs h
  | portReset | readNotice | readSummary =>
    exact request_keeps keptByAnswer_samplesAccounted h hs (samplesAccounted_congr (s := s) (by simp [sampleView]) hs)
  | readRod | readRodList | readSlot | readLaidOutList | readWearLimits | readStack | readBha | readMakeupLimits
  | readDepth | readCirculation | readChannel | readPumps | readCasingProgram | readAnnulus | readLagQueue | readLog
  | readInterval | readIntervalAtDepth | readSamples | readTicket | readRateCard | readJobTotals | readNoticeStatus
  | readNoticeLevels | readMode | readPortStatus | readJob => exact readRequest_keeps keptByAnswer_samplesAccounted h hs
  | rackSense =>
    refine request_sampleView h hs ?_
    exact foldl_keeps sampleView (fun s n => raise .rackDiscrepancy n 0 s) (fun _ _ => rfl) _ _
  | registerRod | deleteRod | restoreRod | setWearLimits | setSlotSensing | setMakeupLimits | downStart | downEnd
  | setPump | setCirculationLimits | additive | setCasingProgram | setDrillBreak | reArm | classify | confirm | merge
  | split | waterStrike | clearWaterStrike | setBandRates | setTierMultipliers | setHourlyRates | setAdditivePrices
  | closeTicket | acknowledgeTicket | setNoticeLevels | setNoticeFilter | cancelMode | setWakeTable | closeJob =>
    exact request_sampleView h hs (by simp [sampleView, registerRodTaken, restoreRodTaken])

end

/-- Settles O9: the issue of samples, their arrival and their abandonment each keep the numbers accounted, OPEN JOB starts them
anew, and no other command touches them. -/
theorem stepKeepsSamplesAccounted : Obligations.StepKeepsSamplesAccounted := fun s t hs h =>
  step_keeps SamplesAccounted (fun _ _ h => h) (fun c _ _ hs h => exec_samplesAccounted c hs h) s t hs h

end Sys2Proof.Machine

namespace Sys2Proof.Machine

/-! ### Arrivals (R97, R98, R99) -/

section
variable {s t : State} {e : LagEntry} {rest : List LagEntry}

theorem arrive_setLag (e : LagEntry) (status : SampleStatus) (caught : Bool) (rest : List LagEntry) (s : State) :
    arrive e status caught (s.setLag { s.lag with queue := rest }) = arrived e status caught rest s := rfl

theorem arrivalStatus_eq (g : Lag) (e : LagEntry) :
    arrivalStatus g e = if g.returnsLoss = true ∨ g.returnsFlowOut = some 0 then SampleStatus.noReturns
      else if e.strokesHeld = true then .estimated else .returns :=
  ite_congr (by simp) (fun _ => rfl) fun _ => rfl

theorem headDue_eq_some_iff :
    headDue s = some e ↔ s.lag.queue.head? = some e ∧ ∃ target ∈ e.target, target ≤ s.circ.pumped := by
  unfold headDue
  cases s.lag.queue with
  | nil => simp
  | cons x rest =>
    simp only [List.head?_cons, Option.some.injEq]
    constructor
    · intro h
      split at h
      next target htarget =>
        split at h
        next hle =>
          cases h
          exact ⟨rfl, target, htarget, hle⟩
        next => cases h
      next => cases h
    · rintro ⟨rfl, target, htarget, hle⟩
      rw [Option.mem_def.mp htarget]
      exact if_pos hle

/-- R97: the head of the queue as it arrives, under the returns values of `g`. -/
def headArrived (g : Lag) (s : State) (e : LagEntry) : State := arrived e (arrivalStatus g e) false s.lag.queue.tail s

theorem releaseHead_due (h : headDue s = some e) : releaseHead s = headArrived s.lag s e := by
  unfold releaseHead
  rw [h]
  rfl

theorem releaseHead_eq (s : State) :
    releaseHead s =
      match s.lag.queue with
      | [] => s
      | e :: rest =>
        match e.target with
        | none => s
        | some target => if target ≤ s.circ.pumped then arrived e (arrivalStatus s.lag e) false rest s else s := by
  unfold releaseHead headDue
  cases hqueue : s.lag.queue with
  | nil => rfl
  | cons e rest =>
    cases htarget : e.target with
    | none => simp [htarget]
    | some target => by_cases hdue : target ≤ s.circ.pumped <;> simp [htarget, hdue, arrive_setLag]

/-- R97: a release of the first `k` entries of the queue. -/
structure Released (k : Nat) (s t : State) : Prop where
  queue : t.lag.queue = s.lag.queue.drop k
  due : ∀ e ∈ s.lag.queue.take k, ∃ target ∈ e.target, target ≤ s.circ.pumped
  arrivals : t = (s.lag.queue.take k).foldl (headArrived s.lag) s
  stops : ∀ e ∈ (s.lag.queue.drop k).head?, ∀ target ∈ e.target, s.circ.pumped < target

theorem released_zero (h : headDue s = none) : Released 0 s s where
  queue := rfl
  due := by simp
  arrivals := rfl
  stops e he target htarget := Nat.lt_of_not_le fun hle => by
    have hdue := headDue_eq_some_iff.mpr ⟨he, target, htarget, hle⟩
    rw [h] at hdue
    cases hdue

/-- R97: an entry that is due arrives ahead of the entries released behind it: its arrival moves neither V_p nor the returns
values. -/
theorem released_succ {k : Nat} (h : headDue s = some e) (ht : Released k (headArrived s.lag s e) t) :
    Released (k + 1) s t := by
  obtain ⟨hhead, hdue⟩ := headDue_eq_some_iff.mp h
  obtain ⟨rest, hqueue⟩ : ∃ rest, s.lag.queue = e :: rest := List.head?_eq_some_iff.mp hhead
  have hrest : (headArrived s.lag s e).lag.queue = rest := by simp [headArrived, ← arrive_setLag, hqueue]
  obtain ⟨hleft, hreleased, harrivals, hstops⟩ := ht
  rw [hrest] at hleft hreleased harrivals hstops
  constructor
  · simpa [hqueue] using hleft
  · rw [hqueue, List.take_succ_cons, List.forall_mem_cons]
    exact ⟨hdue, hreleased⟩
  · rw [hqueue, List.take_succ_cons, List.foldl_cons, harrivals]
    rfl
  · rw [hqueue, List.drop_succ_cons]
    exact hstops

theorem releaseUpTo_released (fuel : Nat) (h : s.lag.queue.length ≤ fuel) : ∃ k, Released k s (releaseUpTo fuel s) := by
  induction fuel generalizing s with
  | zero => exact ⟨0, released_zero (by simp [headDue, List.length_eq_zero_iff.mp (Nat.le_zero.mp h)])⟩
  | succ fuel ih =>
    unfold releaseUpTo
    cases hdue : headDue s with
    | none => exact ⟨0, by simpa using released_zero hdue⟩
    | some e =>
      have hshorter : (headArrived s.lag s e).lag.queue.length ≤ fuel := by
        simp only [headArrived, ← arrive_setLag, arrive_frame, State.setLag_lag, List.length_tail]
        omega
      obtain ⟨k, hk⟩ := ih hshorter
      exact ⟨k + 1, by simpa [releaseHead_due hdue] using released_succ hdue hk⟩

/-! ### SAMPLE CAUGHT (R98) -/

theorem headNamed_cons (number : Nat) (h : s.lag.queue = e :: rest) :
    headNamed number s = if e.number = number then some e else none := by
  unfold headNamed
  rw [h]

/-- R98, check 3 and R99: the head is named. -/
theorem sampleCaughtTaken_head (h : s.lag.queue = e :: rest) :
    sampleCaughtTaken e.number s = taken (releaseArrivals (arrived e .caught true rest s)) := by
  unfold sampleCaughtTaken
  rw [headNamed_cons _ h, if_pos rfl]
  simp only [h, List.tail_cons, arrive_setLag]

theorem settledBy_alreadyArrived (p : Port) (code : Nat) (s : State) :
    settledBy p code { taken s with code := .alreadyArrived } = settled p code .alreadyArrived [] s := by
  simp [settledBy, settled, taken]

/-- R98, checks 4 to 6: another sample is named. -/
theorem settledBy_sampleCaught_notHead {p : Port} {number : Nat} (h : headNamed number s = none) :
    settledBy p 49 (sampleCaughtTaken number s) =
      if ∃ r ∈ s.log.samples, r.number = number then settled p 49 .alreadyArrived [] (markedCaught number s)
      else if ∃ e ∈ s.lag.queue, e.number = number then settled p 49 .outOfOrder [] s
      else settled p 49 .noSuch [] s := by
  unfold sampleCaughtTaken
  rw [h]
  simp only [settledBy_ite, settledBy_refuse]
  exact ite_congr (by simp) (fun _ => settledBy_alreadyArrived ..) fun _ => ite_congr (by simp) (fun _ => rfl) fun _ => rfl

theorem settledBy_sampleCaughtTaken (p : Port) (number : Nat) (s : State) :
    settledBy p 49 (sampleCaughtTaken number s) =
      match s.lag.queue with
      | e :: rest =>
        if e.number = number then settled p 49 .ok [] (releaseArrivals (arrived e .caught true rest s))
        else if ∃ r ∈ s.log.samples, r.number = number then settled p 49 .alreadyArrived [] (markedCaught number s)
        else if ∃ e ∈ rest, e.number = number then settled p 49 .outOfOrder [] s
        else settled p 49 .noSuch [] s
      | [] =>
        if ∃ r ∈ s.log.samples, r.number = number then settled p 49 .alreadyArrived [] (markedCaught number s)
        else settled p 49 .noSuch [] s := by
  cases hqueue : s.lag.queue with
  | nil =>
    have hnone : headNamed number s = none := by simp [headNamed, hqueue]
    simp [settledBy_sampleCaught_notHead hnone, hqueue]
  | cons e rest =>
    by_cases hhead : e.number = number
    · subst hhead
      simp [sampleCaughtTaken_head hqueue]
    · have hnone : headNamed number s = none := by rw [headNamed_cons _ hqueue, if_neg hhead]
      simp [settledBy_sampleCaught_notHead hnone, hqueue, hhead]

end

/-- Settles O40: the checks of R98 one by one, the head by `headDue_eq_some_iff`, and the release by induction on the length of
the queue (`releaseUpTo_released`). -/
theorem samplesCaughtAndArrived : Obligations.SamplesCaughtAndArrived := by
  refine ⟨fun p number s h => ?caught, fun s h => ?arrival, fun s => ?release⟩
  case caught =>
    refine request_eq h ?_
    refine settledBy_check (onlyFrom_mud p) fun _ => ?_
    refine settledBy_check (by rw [inRange_isNone]; omega) fun _ => ?_
    refine settledBy_check (by simp) fun _ => ?_
    exact settledBy_sampleCaughtTaken p number s
  case arrival =>
    intro status
    refine (whileRunning_running releaseHead s h).trans (congrArg _ ?_)
    have hstatus : status = arrivalStatus s.lag := funext fun e => (arrivalStatus_eq s.lag e).symm
    rw [hstatus]
    exact releaseHead_eq s
  case release =>
    obtain ⟨k, hqueue, hdue, harrivals, hstops⟩ := releaseUpTo_released (s := s) _ (Nat.le_refl _)
    refine ⟨k, hqueue, hdue, ?_, hstops⟩
    simp only [← arrivalStatus_eq]
    exact harrivals

end Sys2Proof.Machine

namespace Sys2Proof.Machine

/-! ### The entry to SETUP (R82, R100, R127, R175) -/

/-- R100, R106: the record of an entry that is abandoned. -/
def abandonedRecord (clock : Nat) (e : LagEntry) : Sample :=
  { number := e.number, origin := e.origin, status := .abandoned, arrival := clock, caught := false }

theorem foldl_registerAbandoned (queue : List LagEntry) (s : State) :
    queue.foldl (fun s e => registerSample e.number e.origin .abandoned false s) s =
      s.setLog { s.log with
        samples := queue.foldl (fun xs e => insertSample (abandonedRecord s.job.clock e) xs) s.log.samples } := by
  induction queue generalizing s with
  | nil => rfl
  | cons e rest ih => exact ih _

theorem abandonQueue_eq (s : State) :
    abandonQueue s = { s with
      lag := { s.lag with queue := [] },
      log := { s.log with
        samples := s.lag.queue.foldl (fun xs e => insertSample (abandonedRecord s.job.clock e) xs) s.log.samples } } := by
  rw [abandonQueue, foldl_registerAbandoned]
  rfl

/-- A notice looks at the levels, the ports and the job, and not at the strata log. -/
theorem logEnterSetup_raiseIf (c : Bool) (k : NoticeKind) (a b : Nat) (s : State) :
    logEnterSetup (raiseIf c k a b s) = raiseIf c k a b (logEnterSetup s) := by
  cases c <;> rfl

theorem enterSetupSteps_eq (s : State) : enterSetupSteps s = setupEntered s := by
  rw [enterSetupSteps, abandonQueue_eq, circEnterSetup, logEnterSetup_raiseIf, logEnterSetup_raiseIf]
  rfl

/-! ### Pending mode requests (R166, R172, R173) -/

theorem quietFailing_eq (s : State) : quietFailing s = quietSum s := by simp [quietFailing, quietSum]

theorem standbyFailing_eq (s : State) : standbyFailing s = standbySum s := by
  rw [standbyFailing, quietFailing_eq, standbySum]

theorem pendingHolds_iff (s : State) (r : PendingMode) :
    pendingHolds s r = true ↔ (if r.target = .standby then standbySum s else quietSum s) = 0 := by
  unfold pendingHolds
  cases r.target <;> simp [quietFailing_eq, standbyFailing_eq]

theorem recheck_eq (s : State) :
    recheck s =
      match s.modes.request with
      | none => s
      | some r =>
        if (if r.target = .standby then standbySum s else quietSum s) = 0 then modeTaken r.target s else s := by
  unfold recheck
  cases s.modes.request with
  | none => rfl
  | some r => exact ite_congr (propext (pendingHolds_iff s r)) (fun _ => rfl) fun _ => rfl

/-- R165, R175: a change of mode. -/
theorem setMode_other {m : Mode} {s : State} (h : m ≠ s.modes.mode) :
    setMode m s =
      let modes := { s.modes with mode := m }
      let changed := { s with modes := modes, tally := permitsUnder modes s.tally }
      raise .modeChanged m.code s.modes.mode.code (if m = .setup then setupEntered changed else changed) := by
  simp only [setMode, if_neg h, drivePermits_eq, enterSetupSteps_eq]
  rfl

/-- Settles O54: the entry to SETUP by `enterSetupSteps_eq`, the permits by `drivePermits_eq`, and the condition of a pending
request by `pendingHolds_iff`. -/
theorem modeChangesAndPendingTaken : Obligations.ModeChangesAndPendingTaken :=
  ⟨fun s => setMode_same _ s rfl, fun _ _ h => setMode_other h,
    fun s h => (whileRunning_running recheck s h).trans (congrArg _ (recheck_eq s))⟩

end Sys2Proof.Machine

namespace Sys2Proof.Machine

/-! ### Stretches, millimetre by millimetre (R88, R89) -/

section
variable {α β : Type}

/-- What a list of stretches says, millimetre by millimetre. -/
def spread (xs : List (Nat × α)) : List α := xs.flatMap fun x => List.replicate x.1 x.2

@[simp] theorem spread_nil : spread ([] : List (Nat × α)) = [] := rfl

@[simp] theorem spread_cons (n : Nat) (x : α) (xs : List (Nat × α)) :
    spread ((n, x) :: xs) = List.replicate n x ++ spread xs := rfl

@[simp] theorem spread_append (xs ys : List (Nat × α)) : spread (xs ++ ys) = spread xs ++ spread ys :=
  List.flatMap_append

theorem length_spread (xs : List (Nat × α)) : (spread xs).length = spanOf xs := by
  simp [spread, spanOf, List.length_flatMap]

theorem spread_reverse (xs : List (Nat × α)) : spread xs.reverse = (spread xs).reverse := by
  induction xs with
  | nil => rfl
  | cons x xs ih =>
    obtain ⟨n, x⟩ := x
    simp [ih]

/-- A stretch of no length says nothing. -/
theorem spread_filter (xs : List (Nat × α)) : spread (xs.filter fun x => x.1 != 0) = spread xs := by
  induction xs with
  | nil => rfl
  | cons x xs ih =>
    obtain ⟨n, x⟩ := x
    cases n with
    | zero => simpa using ih
    | succ n => simpa using ih

theorem spread_clip (z : Nat) (xs : List (Nat × α)) : spread (clip z xs) = (spread xs).take z := by
  induction xs generalizing z with
  | nil => simp [clip]
  | cons x xs ih =>
    obtain ⟨n, x⟩ := x
    unfold clip
    split
    next h => simp [ih, List.take_append, List.take_replicate, Nat.min_eq_right (Nat.le_of_lt h)]
    next h =>
      have hle := Nat.not_lt.mp h
      simp [List.take_append, List.take_replicate, Nat.min_eq_left hle, Nat.sub_eq_zero_of_le hle]

/-- R88, R90: a list cut at `z`, and filled up to `z` with what holds beyond it. -/
theorem take_append_replicate (z : Nat) (xs : List α) (d : α) :
    xs.take z ++ List.replicate (z - xs.length) d = (List.range z).map fun k => xs.getD k d := by
  refine List.ext_getElem (by simp; omega) fun k hk _ => ?_
  by_cases hin : k < xs.length
  · rw [List.getElem_append_left (by simp at hk ⊢; omega)]
    simp [hin]
  · rw [List.getElem_append_right (by simp; omega)]
    simp [Nat.not_lt.mp hin]

theorem zip_replicate_append (n : Nat) (x : α) (y : β) (xs : List α) (ys : List β) :
    (List.replicate n x ++ xs).zip (List.replicate n y ++ ys) = List.replicate n (x, y) ++ xs.zip ys := by
  rw [List.zip_append (by simp), List.zip_replicate']

/-- A stretch cut in two. -/
theorem replicate_cut {n m : Nat} (h : n ≤ m) (x : α) (xs : List α) :
    List.replicate m x ++ xs = List.replicate n x ++ (List.replicate (m - n) x ++ xs) := by
  rw [← List.append_assoc, List.replicate_append_replicate, Nat.add_sub_cancel' h]

/-- R89: two lists cut at each other's ends say of each millimetre what both say. -/
theorem spread_overlay (fuel : Nat) (xs : List (Nat × α)) (ys : List (Nat × β)) (h : xs.length + ys.length ≤ fuel) :
    spread (overlay fuel xs ys) = (spread xs).zip (spread ys) := by
  induction fuel generalizing xs ys with
  | zero => simp [overlay, List.length_eq_zero_iff.mp (show xs.length = 0 by omega)]
  | succ fuel ih =>
    match xs, ys with
    | [], _ => simp [overlay]
    | _ :: _, [] => simp [overlay]
    | (n, x) :: xs, (m, y) :: ys =>
      simp only [List.length_cons] at h
      unfold overlay
      split
      next hlt =>
        have hrest := ih xs ((m - n, y) :: ys) (by simp only [List.length_cons]; omega)
        simp only [spread_cons] at hrest ⊢
        rw [hrest, replicate_cut (Nat.le_of_lt hlt) y, zip_replicate_append]
      next hge =>
        split
        next hlt =>
          have hrest := ih ((n - m, x) :: xs) ys (by simp only [List.length_cons]; omega)
          simp only [spread_cons] at hrest ⊢
          rw [hrest, replicate_cut (Nat.le_of_lt hlt) x, zip_replicate_append]
        next hge' =>
          obtain rfl : n = m := by omega
          simp only [spread_cons]
          rw [ih xs ys (by omega), zip_replicate_append]

/-- R89: no stretch of the two lists cut is empty where none was. -/
theorem overlay_pos (fuel : Nat) {xs : List (Nat × α)} {ys : List (Nat × β)} (hx : ∀ x ∈ xs, 0 < x.1)
    (hy : ∀ y ∈ ys, 0 < y.1) : ∀ p ∈ overlay fuel xs ys, 0 < p.1 := by
  induction fuel generalizing xs ys with
  | zero => simp [overlay]
  | succ fuel ih =>
    match xs, ys with
    | [], _ => simp [overlay]
    | _ :: _, [] => simp [overlay]
    | (n, x) :: xs, (m, y) :: ys =>
      rw [List.forall_mem_cons] at hx hy
      unfold overlay
      split
      next hlt =>
        refine List.forall_mem_cons.mpr ⟨hx.1, ih hx.2 (List.forall_mem_cons.mpr ⟨?_, hy.2⟩)⟩
        exact Nat.sub_pos_of_lt hlt
      next =>
        split
        next hlt =>
          refine List.forall_mem_cons.mpr ⟨hy.1, ih (List.forall_mem_cons.mpr ⟨?_, hx.2⟩) hy.2⟩
          exact Nat.sub_pos_of_lt hlt
        next => exact List.forall_mem_cons.mpr ⟨hx.1, ih hx.2 hy.2⟩

end

/-! ### Stretches joined (R89) -/

/-- R89: a stretch joined with the list below it. -/
def joinOne (p : Nat × Nat × Nat) : List (Nat × Nat × Nat) → List (Nat × Nat × Nat)
  | [] => [p]
  | q :: more => if p.2 = q.2 then (p.1 + q.1, p.2) :: more else p :: q :: more

theorem joinStretches_cons (p : Nat × Nat × Nat) (ps : List (Nat × Nat × Nat)) :
    joinStretches (p :: ps) = joinOne p (joinStretches ps) := by
  obtain ⟨n, x⟩ := p
  rw [joinStretches]
  cases joinStretches ps <;> rfl

theorem spread_joinOne (p : Nat × Nat × Nat) (ps : List (Nat × Nat × Nat)) :
    spread (joinOne p ps) = List.replicate p.1 p.2 ++ spread ps := by
  cases ps with
  | nil => simp [joinOne, spread]
  | cons q ps =>
    rw [joinOne, show spread (q :: ps) = List.replicate q.1 q.2 ++ spread ps from rfl]
    split
    next heq => rw [spread_cons, ← heq, ← List.append_assoc, List.replicate_append_replicate]
    next => rfl

theorem spread_joinStretches (ps : List (Nat × Nat × Nat)) : spread (joinStretches ps) = spread ps := by
  induction ps with
  | nil => rfl
  | cons p ps ih => rw [joinStretches_cons, spread_joinOne, ih, ← spread_cons]

theorem joinStretches_pos {ps : List (Nat × Nat × Nat)} (h : ∀ p ∈ ps, 0 < p.1) : ∀ p ∈ joinStretches ps, 0 < p.1 := by
  induction ps with
  | nil => simp [joinStretches]
  | cons p ps ih =>
    rw [List.forall_mem_cons] at h
    have hrest := ih h.2
    rw [joinStretches_cons]
    cases hjoined : joinStretches ps with
    | nil => simpa [joinOne] using h.1
    | cons q qs =>
      rw [hjoined, List.forall_mem_cons] at hrest
      rw [joinOne]
      split
      · exact List.forall_mem_cons.mpr ⟨Nat.add_pos_left h.1 _, hrest.2⟩
      · exact List.forall_mem_cons.mpr ⟨h.1, List.forall_mem_cons.mpr hrest⟩

/-- R89: stretches that meet differ in what they say. -/
def MeetingDiffer (ps : List (Nat × Nat × Nat)) : Prop :=
  ∀ (i : Nat) (x y : Nat × Nat × Nat), ps[i]? = some x → ps[i + 1]? = some y → x.2 ≠ y.2

theorem meetingDiffer_singleton (p : Nat × Nat × Nat) : MeetingDiffer [p] := by
  intro i x y _ hy
  simp at hy

theorem meetingDiffer_cons_cons (p q : Nat × Nat × Nat) (ps : List (Nat × Nat × Nat)) :
    MeetingDiffer (p :: q :: ps) ↔ p.2 ≠ q.2 ∧ MeetingDiffer (q :: ps) := by
  constructor
  · exact fun h => ⟨h 0 p q rfl rfl, fun i => h (i + 1)⟩
  · rintro ⟨hne, hrest⟩ i x y hx hy
    cases i with
    | zero =>
      cases hx
      cases hy
      exact hne
    | succ i => exact hrest i x y hx hy

/-- R89: the joined list is maximal. -/
theorem joinStretches_meetingDiffer (ps : List (Nat × Nat × Nat)) : MeetingDiffer (joinStretches ps) := by
  induction ps with
  | nil =>
    intro i x y hx
    cases hx
  | cons p ps ih =>
    rw [joinStretches_cons]
    cases hjoined : joinStretches ps with
    | nil => exact meetingDiffer_singleton p
    | cons q qs =>
      rw [hjoined] at ih
      rw [joinOne]
      split
      next heq =>
        cases qs with
        | nil => exact meetingDiffer_singleton _
        | cons r qs =>
          obtain ⟨hne, hrest⟩ := (meetingDiffer_cons_cons q r qs).mp ih
          exact (meetingDiffer_cons_cons _ r qs).mpr ⟨heq ▸ hne, hrest⟩
      next hne => exact (meetingDiffer_cons_cons p q qs).mpr ⟨hne, ih⟩

/-! ### The outside diameter and the bore over [0, z] (R86, R88, R90) -/

/-- R88: a serial of the stack that is not registered adds no length. -/
theorem spread_componentList (s : State) : spread (componentList s) = spread (stringFromBit s) := by
  rw [componentList, stringFromBit, spread_append, spread_append]
  refine congrArg _ ?_
  induction s.tally.stack with
  | nil => rfl
  | cons serial serials ih =>
    rw [List.map_cons, spread_cons, ih]
    cases hfound : findRod s.rack.rods serial <;> simp_all [findRod]

theorem spread_odStretches (s : State) (z : Nat) :
    spread (odStretches (componentList s) z) = (List.range z).map (odAbove s) := by
  rw [odStretches, spread_append, spread_clip, ← length_spread, spread_componentList]
  simp only [spread_cons, spread_nil, List.append_nil]
  exact take_append_replicate z _ 0

section
variable {top : Nat} {program : List Section}

/-- R86: the millimetre below `top + k` lies in the first section whose base is below it. -/
theorem spread_sectionStretches (h : (top :: program.map Section.base).Pairwise (· ≤ ·)) (k : Nat) :
    (spread (sectionStretches top program))[k]? = (program.find? fun c => top + k < c.base).map Section.bore := by
  induction program generalizing top k with
  | nil => rfl
  | cons x rest ih =>
    obtain ⟨htop, hrest⟩ := List.pairwise_cons.mp h
    have hbase : top ≤ x.base := htop x.base (by simp)
    rw [sectionStretches, spread_cons]
    by_cases hin : k < x.base - top
    · have hfirst : top + k < x.base := by omega
      rw [List.getElem?_append_left (by simpa using hin), List.find?_cons_of_pos (by simpa using hfirst)]
      simp [hin]
    · have hbelow : ¬ top + k < x.base := by omega
      rw [List.getElem?_append_right (by simpa using hin), List.find?_cons_of_neg (by simpa using hbelow),
        List.length_replicate, ih hrest, show x.base + (k - (x.base - top)) = top + k by omega]

/-- R90: the sections reach from the table to the base of the last one. -/
theorem spanOf_sectionStretches (h : (top :: program.map Section.base).Pairwise (· ≤ ·)) :
    top + spanOf (sectionStretches top program) = (program.getLast?.map Section.base).getD top := by
  induction program generalizing top with
  | nil => rfl
  | cons x rest ih =>
    obtain ⟨htop, hrest⟩ := List.pairwise_cons.mp h
    have hbase : top ≤ x.base := htop x.base (by simp)
    have hspan : top + spanOf (sectionStretches top (x :: rest)) = x.base + spanOf (sectionStretches x.base rest) := by
      simp only [sectionStretches, spanOf, List.map_cons, List.sum_cons]
      omega
    rw [hspan, ih hrest]
    cases rest <;> simp [List.getLast?_cons]

theorem spread_boreStretches (h : (program.map Section.base).Pairwise (· < ·)) (z : Nat) :
    spread (boreStretches program z) = (List.range z).map fun k => boreAt program (z - 1 - k) := by
  have hascending : (0 :: program.map Section.base).Pairwise (· ≤ ·) :=
    List.pairwise_cons.mpr ⟨fun _ _ => Nat.zero_le _, h.imp Nat.le_of_lt⟩
  have hbase : programBase program = (spread (sectionStretches 0 program)).length := by
    rw [length_spread, ← Nat.zero_add (spanOf _), spanOf_sectionStretches hascending, programBase]
  have hbore : ∀ y, (spread (sectionStretches 0 program)).getD y (lastBore program) = boreAt program y := by
    intro y
    rw [List.getD_eq_getElem?_getD, spread_sectionStretches hascending, Nat.zero_add, boreAt]
    cases program.find? fun c => y < c.base <;> rfl
  have hdown : spread (clip z (sectionStretches 0 program) ++ [(z - programBase program, lastBore program)]) =
      (List.range z).map (boreAt program) := by
    rw [spread_append, spread_clip, hbase]
    simp only [spread_cons, spread_nil, List.append_nil]
    rw [take_append_replicate]
    exact List.map_congr_left fun y _ => hbore y
  rw [boreStretches, spread_reverse, hdown]
  exact List.ext_getElem (by simp) fun k _ _ => by simp

end

/-! ### The pieces of [0, z] (R88, R89) -/

theorem spread_piecesOf {s : State} (h : (s.lag.program.map Section.base).Pairwise (· < ·)) (z : Nat) :
    spread (piecesOf s z) = (List.range z).map fun k => (odAbove s k, boreAt s.lag.program (z - 1 - k)) := by
  rw [piecesOf, spread_joinStretches, spread_overlay _ _ _ (Nat.le_refl _), spread_filter, spread_filter, spread_odStretches,
    spread_boreStretches h, List.zip_map']

theorem piecesOf_pos (s : State) (z : Nat) : ∀ x ∈ piecesOf s z, 0 < x.1 := by
  have hfiltered : ∀ xs : List (Nat × Nat), ∀ x ∈ xs.filter fun x => x.1 != 0, 0 < x.1 := by
    intro xs x hx
    simpa [Nat.pos_iff_ne_zero] using (List.mem_filter.mp hx).2
  exact joinStretches_pos (overlay_pos _ (hfiltered _) (hfiltered _))

theorem piecesOf_meetingDiffer (s : State) (z : Nat) : MeetingDiffer (piecesOf s z) := joinStretches_meetingDiffer _

end Sys2Proof.Machine

namespace Sys2Proof.Machine

/-! ### The marks of an increment (R91) -/

theorem mem_marksIn {start interval a b m : Nat} (hpos : 0 < interval) (h : start ≤ a) :
    m ∈ marksIn start interval a b ↔ a < m ∧ m ≤ b ∧ (m - start) % interval = 0 := by
  have hafter : a - start < interval * ((a - start) / interval + 1) := Nat.lt_mul_div_succ _ hpos
  have hbefore : interval * ((b - start) / interval) ≤ b - start := Nat.mul_div_le _ _
  simp only [marksIn, List.mem_map, List.mem_range]
  constructor
  · rintro ⟨k, hk, rfl⟩
    have hfirst := Nat.mul_le_mul_left interval (show (a - start) / interval + 1 ≤ (a - start) / interval + 1 + k by omega)
    have hlast := Nat.mul_le_mul_left interval (show (a - start) / interval + 1 + k ≤ (b - start) / interval by omega)
    exact ⟨by omega, by omega, by rw [Nat.add_sub_cancel_left, Nat.mul_mod_right]⟩
  · rintro ⟨ha, hb, hwhole⟩
    have hm : interval * ((m - start) / interval) = m - start := Nat.mul_div_cancel' (Nat.dvd_of_mod_eq_zero hwhole)
    have hfirst : (a - start) / interval < (m - start) / interval := by
      rw [Nat.div_lt_iff_lt_mul hpos, Nat.mul_comm, hm]
      omega
    have hlast : (m - start) / interval ≤ (b - start) / interval := Nat.div_le_div_right (by omega)
    refine ⟨(m - start) / interval - (a - start) / interval - 1, by omega, ?_⟩
    have hindex : (a - start) / interval + 1 + ((m - start) / interval - (a - start) / interval - 1) =
        (m - start) / interval := by omega
    rw [hindex, hm]
    omega

theorem marksIn_ascending {start interval : Nat} (hpos : 0 < interval) (a b : Nat) :
    (marksIn start interval a b).Pairwise (· < ·) := by
  rw [marksIn, List.pairwise_map]
  exact List.pairwise_lt_range.imp fun h => Nat.add_lt_add_left (Nat.mul_lt_mul_of_pos_left (Nat.add_lt_add_left h _) hpos) _

/-- R91: the depths of (a, b] at whole intervals from the start depth. -/
theorem marksIn_eq {start interval a : Nat} (b : Nat) (hpos : 0 < interval) (h : start ≤ a) :
    marksIn start interval a b = (List.range (b + 1)).filter fun m => a < m ∧ start < m ∧ (m - start) % interval = 0 := by
  have hrange : ((List.range (b + 1)).filter fun m => a < m ∧ start < m ∧ (m - start) % interval = 0).Pairwise (· < ·) :=
    List.pairwise_lt_range.filter _
  have hmarks := marksIn_ascending (start := start) hpos a b
  have hsame := (List.perm_ext_iff_of_nodup (hmarks.imp Nat.ne_of_lt) (hrange.imp Nat.ne_of_lt)).mpr fun m => by
    rw [mem_marksIn hpos h, List.mem_filter, List.mem_range, decide_eq_true_iff]
    omega
  exact hsame.eq_of_pairwise (fun x y _ _ hxy hyx => absurd hxy (Nat.lt_asymm hyx)) hmarks hrange

/-! ### Samples queued (R92 to R95) -/

section
variable {s t : State}

theorem lastTarget_append {e : LagEntry} {target : Nat} (queue : List LagEntry) (h : e.target = some target) :
    lastTarget (queue ++ [e]) = some target := by
  simp [lastTarget, h]

/-- R94: the next sample of the increment has the same target: it is not below that of the entry just queued. -/
theorem targetOf_sampleQueued (annular : Option Nat) (s : State) (mark : Nat) :
    targetOf (sampleQueued annular s mark) annular = targetOf s annular := by
  by_cases hpump : (!s.circ.pump1.present && !s.circ.pump2.present) = true
  · rw [targetOf, targetOf, sampleQueued, State.setLag_circ, if_pos hpump, if_pos hpump]
  · cases annular with
    | none => simp [targetOf]
    | some v =>
      have htarget : targetOf s (some v) =
          some (max (volume64 (s.circ.pumped + v)) ((lastTarget s.lag.queue).getD 0)) := if_neg hpump
      have hlast : lastTarget (s.lag.queue ++ [issuedEntry (some v) s mark]) = _ := lastTarget_append _ htarget
      rw [htarget, targetOf, sampleQueued, State.setLag_circ, State.setLag_lag, if_neg hpump, hlast, Option.map_some,
        Option.getD_some, Nat.max_eq_right (Nat.le_max_left _ _)]

/-- R92: the entries that marks join the queue with. -/
def issuedEntries (annular : Option Nat) (s : State) (marks : List Nat) : List LagEntry :=
  marks.mapIdx fun i m => { issuedEntry annular s m with number := s.lag.nextSample + i }

theorem issuedEntries_cons (annular : Option Nat) (s : State) (mark : Nat) (marks : List Nat) :
    issuedEntries annular s (mark :: marks) =
      issuedEntry annular s mark :: issuedEntries annular (sampleQueued annular s mark) marks := by
  simp only [issuedEntries, List.mapIdx_cons, issuedEntry, targetOf_sampleQueued]
  simp [sampleQueued, Nat.add_assoc, Nat.add_comm 1]

/-- R92: the samples for which the queue has room join its tail. -/
theorem foldl_issueSample_room (annular : Option Nat) (marks : List Nat)
    (h : marks.length ≤ Config.maxLag - s.lag.queue.length) :
    marks.foldl (issueSample annular) s = s.setLag { s.lag with
      queue := s.lag.queue ++ issuedEntries annular s marks, nextSample := s.lag.nextSample + marks.length } := by
  induction marks generalizing s with
  | nil => simp only [issuedEntries, List.mapIdx_nil, List.append_nil]; rfl
  | cons mark marks ih =>
    rw [List.length_cons] at h
    have hroom : marks.length ≤ Config.maxLag - (sampleQueued annular s mark).lag.queue.length := by
      simp only [sampleQueued, State.setLag_lag, List.length_append, List.length_singleton]
      omega
    rw [List.foldl_cons, issueSample_room annular mark (by omega), ih hroom, issuedEntries_cons]
    simp only [sampleQueued, State.setLag_lag, List.append_assoc, List.singleton_append, List.length_cons, Nat.add_assoc,
      Nat.add_comm 1]
    rfl

/-! ### Samples missed (R92, R106) -/

/-- R92, R106: the records of the samples that the queue has no room for. -/
def missedRecords (clock next : Nat) (marks : List Nat) : List Sample :=
  marks.mapIdx fun i m => { number := next + i, origin := m, status := .missed, arrival := clock, caught := false }

theorem missedRecords_cons (clock next mark : Nat) (marks : List Nat) :
    missedRecords clock next (mark :: marks) =
      { number := next, origin := mark, status := .missed, arrival := clock, caught := false } ::
        missedRecords clock (next + 1) marks := by
  simp [missedRecords, List.mapIdx_cons, Nat.add_assoc, Nat.add_comm 1]

/-- R92: SAMPLE_MISSED for each of several records. -/
def missedNoted (records : List Sample) (s : State) : State :=
  records.foldl (fun t r => raise .sampleMissed r.number r.origin t) s

/-- R92: the samples issued to a full queue go to the register. -/
theorem foldl_issueSample_full (annular : Option Nat) (marks : List Nat)
    (h : marks ≠ [] → Config.maxLag ≤ s.lag.queue.length) :
    marks.foldl (issueSample annular) s = missedNoted (missedRecords s.job.clock s.lag.nextSample marks) { s with
      lag := { s.lag with nextSample := s.lag.nextSample + marks.length },
      log := { s.log with samples :=
        (missedRecords s.job.clock s.lag.nextSample marks).foldl (fun xs r => insertSample r xs) s.log.samples } } := by
  induction marks generalizing s with
  | nil => rfl
  | cons mark marks ih =>
    have hfull := h (List.cons_ne_nil _ _)
    rw [List.foldl_cons, issueSample_full annular mark hfull, ih (s := sampleMissed s mark) fun _ => hfull,
      missedRecords_cons, List.length_cons, Nat.add_comm marks.length, ← Nat.add_assoc]
    rfl

end

end Sys2Proof.Machine

namespace Sys2Proof.Machine

/-! ### The issue of an increment's samples (R90, R92) -/

/-- R92: marks issued one by one: as many as the queue has room for join it, and the rest are missed. -/
theorem foldl_issueSample (annular : Option Nat) (marks : List Nat) (s : State) :
    marks.foldl (issueSample annular) s =
      let queued := marks.take (Config.maxLag - s.lag.queue.length)
      let missed := missedRecords s.job.clock (s.lag.nextSample + queued.length)
        (marks.drop (Config.maxLag - s.lag.queue.length))
      missedNoted missed { s with
        lag := { s.lag with
          queue := s.lag.queue ++ issuedEntries annular s queued, nextSample := s.lag.nextSample + marks.length },
        log := { s.log with samples := missed.foldl (fun xs r => insertSample r xs) s.log.samples } } := by
  extract_lets queued missed
  have hroom : queued.length ≤ Config.maxLag - s.lag.queue.length := List.length_take_le _ _
  have hlength : marks.length = queued.length + (marks.drop (Config.maxLag - s.lag.queue.length)).length := by
    rw [← List.length_append, List.take_append_drop]
  have hfull : marks.drop (Config.maxLag - s.lag.queue.length) ≠ [] →
      Config.maxLag ≤ (s.lag.queue ++ issuedEntries annular s queued).length := by
    simp only [ne_eq, List.drop_eq_nil_iff, issuedEntries, queued, List.length_append, List.length_mapIdx, List.length_take]
    omega
  calc marks.foldl (issueSample annular) s
    _ = (marks.drop (Config.maxLag - s.lag.queue.length)).foldl (issueSample annular)
          (queued.foldl (issueSample annular) s) := by rw [← List.foldl_append, List.take_append_drop]
    _ = _ := by
      rw [foldl_issueSample_room annular queued hroom, foldl_issueSample_full annular _ hfull, hlength, ← Nat.add_assoc]
      rfl

/-- R92: the marks of an increment for which the queue has room. -/
def queuedMarks (a b : Nat) (s : State) : List Nat := (marksOf a b s).take (Config.maxLag - s.lag.queue.length)

/-- R92: the marks of an increment that find the queue full. -/
def missedMarks (a b : Nat) (s : State) : List Nat := (marksOf a b s).drop (Config.maxLag - s.lag.queue.length)

/-- R92: the records of the samples that an increment does not queue. -/
def missedOf (a b : Nat) (s : State) : List Sample :=
  missedRecords s.job.clock (s.lag.nextSample + (queuedMarks a b s).length) (missedMarks a b s)

/-- R90: the condition of BELOW_PROGRAM at an issue. -/
abbrev notesBelow (z : Nat) (s : State) : Prop :=
  s.lag.program ≠ [] ∧ programBase s.lag.program < z ∧ s.lag.belowProgram = false

section
variable (a b z : Nat) (s : State)

theorem noteBelowProgram_lag :
    (noteBelowProgram z s).lag = { s.lag with
      belowProgram := s.lag.belowProgram || (!s.lag.program.isEmpty && decide (programBase s.lag.program < z)) } := by
  unfold noteBelowProgram
  split
  next h =>
    simp only [Bool.and_eq_true] at h
    simp [h.1]
  next h =>
    have hkept : (s.lag.belowProgram || (!s.lag.program.isEmpty && decide (programBase s.lag.program < z))) =
        s.lag.belowProgram := by
      cases hset : s.lag.belowProgram <;> simp_all
    rw [hkept]

theorem noteBelowProgram_ports :
    (noteBelowProgram z s).ports =
      (if notesBelow z s then raise .belowProgram s.lag.program.length z s else s).ports := by
  unfold noteBelowProgram
  rw [apply_ite State.ports, apply_ite State.ports]
  exact ite_congr (by simp [notesBelow, and_assoc]) (fun _ => rfl) fun _ => rfl

/-- R90, R93: what an entry is formed from is not touched by the below-program flag. -/
theorem issuedEntries_noteBelowProgram (annular : Option Nat) (marks : List Nat) :
    issuedEntries annular (noteBelowProgram z s) marks = issuedEntries annular s marks := by
  simp [issuedEntries, issuedEntry, targetOf, noteBelowProgram_lag]

/-- R92: a non-empty increment: BELOW_PROGRAM, then the samples queued, then the samples missed. -/
theorem issueSamples_eq (h : marksOf a b s ≠ []) :
    issueSamples a b s =
      let noted := noteBelowProgram (bitDepthGiven s) s
      missedNoted (missedOf a b s) { noted with
        lag := { noted.lag with
          queue := s.lag.queue ++ issuedEntries (annularTimed s) s (queuedMarks a b s),
          nextSample := s.lag.nextSample + (marksOf a b s).length },
        log := { s.log with samples := (missedOf a b s).foldl (fun xs r => insertSample r xs) s.log.samples } } := by
  rw [issueSamples_marks h, foldl_issueSample]
  simp only [noteBelowProgram_frame, noteBelowProgram_lag, issuedEntries_noteBelowProgram, queuedMarks, missedMarks, missedOf]

/-! #### What an increment leaves of each unit -/

@[simp] theorem missedNoted_frame (records : List Sample) (s : State) :
    (missedNoted records s).lag = s.lag ∧ (missedNoted records s).log = s.log := by
  unfold missedNoted
  and_intros <;> exact foldl_keeps _ _ (by simp) _ _

theorem issueSamples_lag :
    (issueSamples a b s).lag = { s.lag with
      queue := s.lag.queue ++ issuedEntries (annularTimed s) s (queuedMarks a b s),
      nextSample := s.lag.nextSample + (marksOf a b s).length,
      belowProgram := s.lag.belowProgram || (!(marksOf a b s).isEmpty && !s.lag.program.isEmpty &&
        decide (programBase s.lag.program < bitDepthGiven s)) } := by
  by_cases h : marksOf a b s = []
  · simp [issueSamples_nil h, queuedMarks, issuedEntries, h]
  · have hsome : (marksOf a b s).isEmpty = false := by simpa using h
    simp [issueSamples_eq a b s h, noteBelowProgram_lag, hsome]

theorem issueSamples_samples :
    (issueSamples a b s).log.samples = (missedOf a b s).foldl (fun xs r => insertSample r xs) s.log.samples := by
  by_cases h : marksOf a b s = []
  · simp [issueSamples_nil h, missedOf, missedRecords, missedMarks, h]
  · simp [issueSamples_eq a b s h]

/-- A notice looks at the levels, the ports and the job. -/
theorem missedNoted_ports {s t : State} (records : List Sample) (hlevels : t.levels = s.levels) (hports : t.ports = s.ports)
    (hjob : t.job = s.job) : (missedNoted records t).ports = (missedNoted records s).ports := by
  induction records generalizing s t with
  | nil => exact hports
  | cons r records ih =>
    refine ih (s := raise .sampleMissed r.number r.origin s) (by simpa using hlevels) ?_ (by simpa using hjob)
    simp only [raise, noticeRecord, noticeClock, hlevels, hports, hjob, State.setPorts_ports]

theorem issueSamples_ports :
    (issueSamples a b s).ports = (missedNoted (missedOf a b s)
      (if marksOf a b s ≠ [] ∧ notesBelow (bitDepthGiven s) s then
        raise .belowProgram s.lag.program.length (bitDepthGiven s) s else s)).ports := by
  by_cases h : marksOf a b s = []
  · simp [issueSamples_nil h, missedOf, missedRecords, missedMarks, missedNoted, h]
  · rw [issueSamples_eq a b s h]
    refine missedNoted_ports _ ?_ ?_ ?_
    · split <;> simp
    · simp [noteBelowProgram_ports, h]
    · split <;> simp

/-- R90, R94: the target of the samples of an increment. -/
theorem targetOf_annularTimed :
    targetOf s (annularTimed s) =
      if (s.lag.program.isEmpty || (s.circ.pump1.displacement == 0 && s.circ.pump2.displacement == 0)) = true then none
      else some (max (volume64 (s.circ.pumped + annularVolume s (bitDepthGiven s)))
        ((s.lag.queue.filterMap LagEntry.target).getLast?.getD 0)) := by
  unfold targetOf annularTimed
  by_cases hprogram : s.lag.program.isEmpty = true
  · simp [hprogram]
  · by_cases hpumps : s.circ.pump1.displacement = 0 ∧ s.circ.pump2.displacement = 0
    · simp [Pump.present, hpumps]
    · simp [Pump.present, hprogram, hpumps, lastTarget]

end

/-- Settles O41: the pieces by what they say of each millimetre (`spread_piecesOf`), the marks by membership (`marksIn_eq`), and the
increment by the lag unit, the register and the notices that it leaves. -/
theorem marksIssueSamples : Obligations.MarksIssueSamples := by
  refine ⟨fun z s h => ⟨spread_piecesOf h z, piecesOf_pos s z, piecesOf_meetingDiffer s z⟩, fun _ _ => rfl, ?_⟩
  intro start interval a b s hstart hinterval hpos ha _ marks queued missed z base untimed entries records
  have hmarks : marksOf a b s = marks := by
    rw [marksOf, startDepth, hstart, hinterval]
    exact marksIn_eq b hpos ha
  have hentries : issuedEntries (annularTimed s) s (queuedMarks a b s) = entries := by
    simp only [issuedEntries, issuedEntry, targetOf_annularTimed, queuedMarks, hmarks]
    rfl
  have hrecords : missedOf a b s = records := by
    simp only [missedOf, missedRecords, queuedMarks, missedMarks, hmarks]
    rfl
  refine ⟨?lag, ?log, ?frame, ?ports⟩
  case lag => rw [issueSamples_lag, hentries, hmarks]
  case log => rw [issueSamples_log, issueSamples_samples, hrecords]
  case frame => apply State.ext_fields <;> simp
  case ports =>
    rw [issueSamples_ports, hrecords, hmarks]
    rfl

end Sys2Proof.Machine

namespace Sys2Proof.Machine

/-! ### What a change of one line leaves of a ticket (R133) -/

section
variable {k : LineKey} {f : Line → Line}

/-- R133: a line changed, or made first, raises the sum of a measure of the lines by what the change raises the line's own. -/
theorem updateLine_sum {M : Type} [Add M] [Zero M] [Std.Associative (α := M) (· + ·)]
    [Std.Commutative (α := M) (· + ·)] [Std.LawfulIdentity (α := M) (· + ·) 0] (measure : Line → M) {n : M} {ls : List Line}
    (hmade : measure (f (newLine k)) = n) (hheld : ∀ l ∈ ls, l.key = k → measure (f l) = measure l + n) :
    ((updateLine k f ls).map measure).sum = (ls.map measure).sum + n := by
  induction ls with
  | nil =>
    simp only [updateLine, List.map_cons, List.map_nil, List.sum_cons, List.sum_nil, hmade]
    ac_rfl
  | cons l ls ih =>
    obtain ⟨hfirst, hrest⟩ := List.forall_mem_cons.mp hheld
    unfold updateLine
    split
    next hkey =>
      simp only [List.map_cons, List.sum_cons, hfirst hkey]
      ac_rfl
    next =>
      split
      · simp only [List.map_cons, List.sum_cons, hmade]
        ac_rfl
      · simp only [List.map_cons, List.sum_cons, ih hrest]
        ac_rfl

/-- R132: a change of a line of the open ticket, in every state. -/
theorem updateOpenLine_eq (k : LineKey) (f : Line → Line) (s : State) :
    updateOpenLine k f s = { s with meter := { s.meter with
      openTicket := s.meter.openTicket.map fun t => { t with lines := updateLine k f t.lines } } } := by
  unfold updateOpenLine
  cases hticket : s.meter.openTicket with
  | none =>
    simp only [Option.map_none]
    rw [← hticket]
  | some t => rfl

end

end Sys2Proof.Machine

namespace Sys2Proof.Machine

/-! ### What `SecondsAccounted` looks at (R132, R135, R146) -/

/-- The fields of a state that `SecondsAccounted` looks at; of the open ticket, its job clock at open and its seconds. -/
structure SecondsView where
  jobOpen : Bool
  clock : Nat
  openTicket : Option (Nat × Nat)
  closed : List Ticket
  seconds : List Nat

/-- R135: the job clock of a ticket at open, and the seconds on its lines. -/
def ticketView (t : Ticket) : Nat × Nat := (t.clockOpen, ticketSeconds t)

def secondsView (s : State) : SecondsView :=
  ⟨s.job.isOpen, s.job.clock, s.meter.openTicket.map ticketView, s.meter.closed, s.meter.totals.seconds⟩

section
variable {s t : State}

theorem secondsView_of_meter_job (hmeter : t.meter = s.meter) (hjob : t.job = s.job) : secondsView t = secondsView s := by
  simp only [secondsView, hmeter, hjob]

theorem secondsAccounted_congr (h : secondsView t = secondsView s) (hs : SecondsAccounted s) : SecondsAccounted t := by
  simp only [secondsView, SecondsView.mk.injEq] at h
  obtain ⟨hopen, hclock, hticket, hclosed, hseconds⟩ := h
  have hsome : t.meter.openTicket.isSome = s.meter.openTicket.isSome := by
    simpa using congrArg Option.isSome hticket
  have hsum : ∀ x ∈ t.meter.openTicket, ∃ y ∈ s.meter.openTicket, ticketView y = ticketView x := by
    intro x hx
    have hview : ticketView x ∈ s.meter.openTicket.map ticketView := hticket ▸ Option.mem_map_of_mem ticketView hx
    simpa [eq_comm] using hview
  obtain ⟨hwhile, hopened, hrest⟩ := hs
  refine ⟨by rw [hsome, hopen]; exact hwhile, fun x hx => ?_, by rwa [hclosed, hseconds, hclock]⟩
  obtain ⟨y, hy, hview⟩ := hsum x hx
  simp only [ticketView, Prod.mk.injEq] at hview
  obtain ⟨hstart, hlines⟩ := hview
  rw [← hstart, ← hlines, hclock]
  exact hopened y hy

theorem secondsAccounted_of_meter_job (hmeter : t.meter = s.meter) (hjob : t.job = s.job) (hs : SecondsAccounted s) :
    SecondsAccounted t := secondsAccounted_congr (secondsView_of_meter_job hmeter hjob) hs

/-! #### Work of the metering unit that touches no second -/

/-- R133: a key whose lines count millimetres or units, not seconds. -/
def Untimed (k : LineKey) : Prop := ∀ l : Line, l.key = k → lineSeconds l = 0

theorem untimed_footage (b : Band) (tier : Nat) : Untimed (.footage b tier) := fun l h => by simp [lineSeconds, h]

theorem untimed_additive (item : Nat) : Untimed (.additive item) := fun l h => by simp [lineSeconds, h]

theorem untimed_adjustment (b : Band) : Untimed (.adjustment b) := fun l h => by simp [lineSeconds, h]

theorem secondsView_updateOpenLine {k : LineKey} {f : Line → Line} (hk : Untimed k) (hf : ∀ l, (f l).key = l.key)
    (s : State) : secondsView (updateOpenLine k f s) = secondsView s := by
  have hlines : ∀ ls, ((updateLine k f ls).map lineSeconds).sum = (ls.map lineSeconds).sum := fun ls =>
    updateLine_sum lineSeconds (n := 0) (hk _ (hf _)) fun l _ hkey => by rw [hk l hkey, hk _ ((hf l).trans hkey)]
  have hview : ticketView ∘ (fun t : Ticket => { t with lines := updateLine k f t.lines }) = ticketView := by
    funext t
    simp only [Function.comp_apply, ticketView, ticketSeconds, hlines]
  rw [updateOpenLine_eq]
  simp only [secondsView, Option.map_map, hview]

theorem secondsView_updateTotals {f : Totals → Totals} (hf : ∀ x, (f x).seconds = x.seconds) (s : State) :
    secondsView (updateTotals f s) = secondsView s := by simp [secondsView, updateTotals, hf]

theorem secondsView_accruePiece (band : Band) (piece : Nat × Nat) (s : State) :
    secondsView (accruePiece band piece s) = secondsView s :=
  (secondsView_updateTotals (by exact fun _ => rfl) _).trans
    (secondsView_updateOpenLine (untimed_footage band piece.1) (by exact fun _ => rfl) s)

theorem secondsView_accrueFootage (band : Band) (a b : Nat) (s : State) :
    secondsView (accrueFootage band a b s) = secondsView s :=
  foldl_keeps secondsView (fun s piece => accruePiece band piece s) (fun s piece => secondsView_accruePiece band piece s) _ _

theorem secondsView_accrueAdditive (item units : Nat) (s : State) :
    secondsView (accrueAdditive item units s) = secondsView s :=
  (secondsView_updateTotals (by exact fun _ => rfl) _).trans
    (secondsView_updateOpenLine (untimed_additive item) (by exact fun _ => rfl) s)

theorem secondsView_postAdjustment (old new : Band) (p q : Nat) (s : State) :
    secondsView (postAdjustment old new p q s) = secondsView s := by
  unfold postAdjustment
  split
  · rfl
  · exact (secondsView_updateOpenLine (untimed_adjustment old) (by exact fun _ => rfl) _).trans
      (secondsView_updateOpenLine (untimed_adjustment new) (by exact fun _ => rfl) s)

theorem secondsView_moveFootage (old new : Band) (piece : Nat × Nat) (s : State) :
    secondsView (moveFootage old new piece s) = secondsView s :=
  (secondsView_updateOpenLine (untimed_footage new piece.1) (by exact fun _ => rfl) _).trans
    (secondsView_updateOpenLine (untimed_footage old piece.1) (by exact fun _ => rfl) s)

theorem secondsView_moveTotals (old new : Band) (piece : Nat × Nat) (s : State) :
    secondsView (moveTotals old new piece s) = secondsView s := secondsView_updateTotals (by exact fun _ => rfl) s

theorem secondsView_reband (top bottom : Nat) (old new : Band) (s : State) :
    secondsView (reband top bottom old new s) = secondsView s := by
  unfold reband
  refine (foldl_keeps secondsView _ (fun s piece => secondsView_moveTotals old new piece s) _ _).trans ?_
  refine (foldl_keeps secondsView _ (fun s piece => secondsView_moveFootage old new piece s) _ _).trans ?_
  exact secondsView_postAdjustment old new _ _ s

theorem secondsView_postBand (n : Nat) (s : State) : secondsView (postBand n s) = secondsView s := by
  unfold postBand
  simp only
  split
  · rfl
  · exact (secondsView_of_meter_job rfl rfl).trans (secondsView_reband ..)

theorem secondsView_postUnclassified (s : State) : secondsView (postUnclassified s) = secondsView s := by
  refine foldl_keeps secondsView _ (fun s n => ?_) _ _
  split
  · exact secondsView_postBand n s
  · rfl

theorem secondsView_mergeTaken (index : Nat) (s : State) : secondsView (mergeTaken index s) = secondsView s := by
  unfold mergeTaken
  simp only
  split
  · rfl
  · exact (secondsView_of_meter_job rfl rfl).trans (secondsView_reband ..)

theorem secondsView_setBandRatesTaken (rates : List Nat) (band : Band) (s : State) :
    secondsView (setBandRatesTaken rates band s) = secondsView s := by
  unfold setBandRatesTaken
  simp only
  split
  · exact secondsView_postUnclassified _
  · rfl

/-! #### The depth computation -/

theorem secondsView_handIncrement (a b : Nat) (s : State) : secondsView (handIncrement a b s) = secondsView s :=
  (secondsView_accrueFootage ..).trans (secondsView_of_meter_job (by simp) (by simp))

theorem secondsView_advanceHole (raw hole : Nat) (s : State) : secondsView (advanceHole raw hole s) = secondsView s := by
  have hincrement : ∀ d : Depth, secondsView (if hole < advancedHole raw hole then
      handIncrement hole (advancedHole raw hole) (s.setDepth d) else s.setDepth d) = secondsView s := by
    intro d
    split
    · exact secondsView_handIncrement ..
    · rfl
  unfold advanceHole
  simp only
  split <;> exact hincrement _

theorem secondsView_holeStep (raw : Nat) (s : State) : secondsView (holeStep raw s) = secondsView s := by
  unfold holeStep
  split
  · split
    · rfl
    · split
      · exact secondsView_advanceHole ..
      · exact secondsView_of_meter_job (by simp [clampToHole]) (by simp)
  · rfl

theorem secondsView_depthCompute (s : State) : secondsView (depthCompute s) = secondsView s := by
  unfold depthCompute
  split
  · rfl
  · simp only
    split
    · rfl
    · exact secondsView_holeStep ..

end

end Sys2Proof.Machine

namespace Sys2Proof.Machine

/-! ### A second credited (R135, R146) -/

section
variable {s t : State}

/-- R133: a key whose lines count seconds. -/
def Timed (k : LineKey) : Prop := ∀ l : Line, l.key = k → lineSeconds l = l.quantity.toNat

theorem timed_secondLine (m : Mode) (a : Activity) : Timed (secondLine m a) := by
  intro l h
  cases m <;> simp [lineSeconds, h, secondLine]

theorem le_sum_of_mem {x : Nat} {xs : List Nat} (h : x ∈ xs) : x ≤ xs.sum := by
  induction xs with
  | nil => cases h
  | cons y ys ih =>
    rw [List.sum_cons]
    rcases List.mem_cons.mp h with rfl | hrest
    · exact Nat.le_add_right _ _
    · exact Nat.le_trans (ih hrest) (Nat.le_add_left _ _)

theorem lineSeconds_le_ticketSeconds {ticket : Ticket} {l : Line} (h : l ∈ ticket.lines) :
    lineSeconds l ≤ ticketSeconds ticket := le_sum_of_mem (List.mem_map_of_mem h)

/-- R133, R135: a second credited to a line that counts seconds is a second more on the ticket, which is not saturated. -/
theorem ticketSeconds_updateLine {k : LineKey} {ticket : Ticket} (hk : Timed k) (h : ticketSeconds ticket < Config.max32) :
    ticketSeconds { ticket with lines := updateLine k (addSaturating 1) ticket.lines } = ticketSeconds ticket + 1 := by
  refine updateLine_sum lineSeconds ?made fun l hl hkey => ?held
  case made =>
    rw [hk _ (by rfl)]
    rfl
  case held =>
    have hle := lineSeconds_le_ticketSeconds hl
    rw [hk l hkey] at hle ⊢
    rw [hk _ (by exact hkey)]
    exact Nat.min_eq_right (Nat.le_trans (Nat.succ_le_succ hle) h)

theorem sum_set_succ {xs : List Nat} {n : Nat} (h : n < xs.length) : (xs.set n (xs.getD n 0 + 1)).sum = xs.sum + 1 := by
  induction xs generalizing n with
  | nil => simp at h
  | cons x xs ih =>
    cases n with
    | zero => simp only [List.set_cons_zero, List.getD_cons_zero, List.sum_cons]; omega
    | succ n =>
      simp only [List.set_cons_succ, List.getD_cons_succ, List.sum_cons, ih (Nat.lt_of_succ_lt_succ h)]
      omega

theorem getD_le_sum (xs : List Nat) (n : Nat) : xs.getD n 0 ≤ xs.sum := by
  rw [List.getD_eq_getElem?_getD]
  cases h : xs[n]? with
  | none => exact Nat.zero_le _
  | some x => exact le_sum_of_mem (List.mem_of_getElem? h)

theorem activity_code_lt (a : Activity) : a.code < 5 := by cases a <;> decide

/-- R135, R146: the line of the second and its total, in every state (log entry 26). -/
theorem creditSecond_eq (s : State) :
    creditSecond s = { s with meter := { s.meter with
      openTicket := s.meter.openTicket.map fun ticket =>
        { ticket with lines := updateLine (secondLine s.modes.mode s.depth.activity) (addSaturating 1) ticket.lines },
      totals := { s.meter.totals with
        seconds := modifyAt s.depth.activity.code (fun v => satAdd Config.max32 v 1) s.meter.totals.seconds } } } := by
  rw [creditSecond, updateOpenLine_eq]
  rfl

/-- R135, R193: the job clock and the second credited rise together: the clock bounds every counter that it feeds. -/
theorem clockSecond_secondsAccounted (hs : SecondsAccounted s) : SecondsAccounted (clockSecond s) := by
  unfold clockSecond
  split
  case isFalse => exact hs
  case isTrue hadvance =>
    obtain ⟨hwhile, hopened, hclosed, hcap, hfive, htotal, -⟩ := hs
    obtain ⟨-, hclock⟩ := Bool.and_eq_true_iff.mp hadvance
    rw [decide_eq_true_iff] at hclock
    rw [creditSecond_eq]
    refine ⟨by simpa using hwhile, ?line, hclosed, hcap, by simpa [modifyAt] using hfive, ?total, hclock⟩
    case line =>
      rintro x hx
      obtain ⟨ticket, hticket, rfl⟩ := Option.map_eq_some_iff.mp hx
      have hsum := hopened ticket hticket
      calc ticket.clockOpen + _
        _ = ticket.clockOpen + (ticketSeconds ticket + 1) :=
          congrArg _ (ticketSeconds_updateLine (timed_secondLine _ _) (by omega))
        _ = s.job.clock + 1 := by omega
    case total =>
      have hle := getD_le_sum s.meter.totals.seconds s.depth.activity.code
      have hraised : satAdd Config.max32 (s.meter.totals.seconds.getD s.depth.activity.code 0) 1 =
          s.meter.totals.seconds.getD s.depth.activity.code 0 + 1 := Nat.min_eq_right (by omega)
      have hplace : s.depth.activity.code < s.meter.totals.seconds.length := by
        rw [hfive]
        exact activity_code_lt _
      calc (modifyAt s.depth.activity.code (fun v => satAdd Config.max32 v 1) s.meter.totals.seconds).sum
        _ = s.meter.totals.seconds.sum + 1 := by rw [modifyAt, hraised, sum_set_succ hplace]
        _ = s.job.clock + 1 := by rw [htotal]

theorem secondCompared_meter (pins : SensePins) (s : State) : (secondCompared pins s).meter = s.meter := by
  simp [secondCompared, advanceSeconds]

theorem secondPasses_secondsAccounted (pins : SensePins) (hs : SecondsAccounted s) :
    SecondsAccounted (secondPasses pins s) := by
  rw [secondPasses_eq]
  refine clockSecond_secondsAccounted (secondsAccounted_of_meter_job ?_ ?_ hs)
  · simp [secondCompared_meter]
  · simp

/-! ### Tickets closed, and jobs opened and closed (R132, R142, R144, R194, R195) -/

/-- R137: the pricing of a ticket touches no quantity. -/
theorem ticketSeconds_priced (card : RateCard) (reference clock hole : Nat) (ticket : Ticket) :
    ticketSeconds (priced card reference clock hole ticket) = ticketSeconds ticket := by
  simp only [ticketSeconds, priced, List.map_map]
  rfl

/-- R142, R144: what the close of the open ticket leaves of the metering unit. -/
theorem closeOpenTicket_meter {ticket : Ticket} (reference : Nat) (reopen : Bool) (h : s.meter.openTicket = some ticket) :
    (closeOpenTicket reference reopen s).meter = { s.meter with
      closed := s.meter.closed ++ [priced s.meter.card reference s.job.clock (holeDepth s) ticket],
      openTicket := if reopen then some (newTicket (nextNumber ticket.number) s.job.clock (holeDepth s)) else none,
      closedDepth := holeDepth s } := by
  unfold closeOpenTicket
  simp only [h]
  split <;> simp

/-- R132, R135: the closed list with a ticket filed whose seconds are accounted, where there is room. -/
theorem closed_filed {ticket : Ticket} (reference : Nat) (hs : SecondsAccounted s) (h : s.meter.openTicket = some ticket)
    (hroom : s.meter.closed.length < Config.maxClosed) :
    let closed := s.meter.closed ++ [priced s.meter.card reference s.job.clock (holeDepth s) ticket]
    (∀ t ∈ closed, closedSecondsOk t = true) ∧ closed.length ≤ Config.maxClosed := by
  obtain ⟨-, hopened, hclosed, -⟩ := hs
  refine ⟨List.forall_mem_append.mpr ⟨hclosed, List.forall_mem_singleton.mpr ?_⟩, by rw [List.length_append]; exact hroom⟩
  simp only [closedSecondsOk, ticketSeconds_priced, beq_iff_eq]
  exact congrArg some (hopened ticket h).symm

theorem openTicket_of_jobOpen (hs : SecondsAccounted s) (h : s.job.isOpen = true) : ∃ ticket, s.meter.openTicket = some ticket :=
  Option.isSome_iff_exists.mp (hs.1.trans h)

/-- R142: the new ticket starts at the job clock at which the old one ended. -/
theorem closeOpenTicket_secondsAccounted (reference : Nat) (hs : SecondsAccounted s) (hjob : s.job.isOpen = true)
    (hroom : s.meter.closed.length < Config.maxClosed) : SecondsAccounted (closeOpenTicket reference true s) := by
  obtain ⟨ticket, hticket⟩ := openTicket_of_jobOpen hs hjob
  obtain ⟨hfiled, hcap⟩ := closed_filed reference hs hticket hroom
  obtain ⟨-, -, -, -, htotals⟩ := hs
  have hkept : (closeOpenTicket reference true s).job = s.job := by simp
  simp only [SecondsAccounted, closeOpenTicket_meter reference true hticket, hkept]
  refine ⟨by simp [hjob], fun x hx => ?_, hfiled, hcap, htotals⟩
  cases hx
  rfl

/-- R195: no ticket follows the last one, and the job is closed. -/
theorem closeJobTaken_secondsAccounted (reference : Nat) (hs : SecondsAccounted s) (hjob : s.job.isOpen = true)
    (hroom : s.meter.closed.length < Config.maxClosed) : SecondsAccounted (closeJobTaken reference s) := by
  obtain ⟨ticket, hticket⟩ := openTicket_of_jobOpen hs hjob
  obtain ⟨hfiled, hcap⟩ := closed_filed reference hs hticket hroom
  obtain ⟨-, -, -, -, htotals⟩ := hs
  have hkept : (closeOpenTicket reference false s).job = s.job := by simp
  simp only [SecondsAccounted, closeJobTaken, State.setJob_meter, State.setJob_job,
    closeOpenTicket_meter reference false hticket, hkept]
  exact ⟨rfl, by simp, hfiled, hcap, htotals⟩

/-- R144, R194: the clock, the totals and ticket 1 start at 0. -/
theorem openJobTaken_secondsAccounted (number start interval : Nat) (hs : SecondsAccounted s) :
    SecondsAccounted (openJobTaken number start interval s) := by
  obtain ⟨-, -, hclosed, hcap, -⟩ := hs
  refine secondsAccounted_congr (secondsView_depthCompute _) ⟨rfl, fun x hx => ?_, hclosed, hcap, rfl, rfl, Nat.zero_le _⟩
  cases hx
  rfl

/-- R145: the closed list without its head. -/
theorem acknowledged_secondsAccounted (hs : SecondsAccounted s) :
    SecondsAccounted (s.setMeter { s.meter with closed := s.meter.closed.tail }) := by
  obtain ⟨hwhile, hopened, hclosed, hcap, htotals⟩ := hs
  refine ⟨hwhile, hopened, fun t ht => hclosed t (List.mem_of_mem_tail ht), ?_, htotals⟩
  exact Nat.le_trans (by simp) hcap

end

end Sys2Proof.Machine

namespace Sys2Proof.Machine

/-! ### Every command keeps the seconds accounted (R132, R135, R146) -/

section
variable {s t : State} {p : Port} {code : Nat} {checks : State → List (Bool × ReplyCode)}

theorem keptByAnswer_secondsAccounted : KeptByAnswer SecondsAccounted where
  reply _ _ _ _ _ hs := hs
  wakes _ _ := secondsAccounted_of_meter_job (by simp) (by simp)
  zeros _ _ hs := hs

/-! #### Power (R149, R196 to R198) -/

theorem secondsView_chooseMode (s : State) : secondsView (chooseMode s) = secondsView s := by
  unfold chooseMode
  simp only
  split <;> rfl

/-- R149: a power event is counted on the ticket, not on a line. -/
theorem secondsView_countPowerEvent (s : State) : secondsView (countPowerEvent s) = secondsView s := by
  unfold countPowerEvent
  split
  next ticket _ hticket => simp [secondsView, hticket, ticketView, ticketSeconds]
  next => rfl

theorem secondsView_checkTally (s : State) : secondsView (checkTally s) = secondsView s := by
  unfold checkTally
  split <;> rfl

/-- R196, R198: the job, the tickets and the totals are retained, or the factory's. -/
theorem readStore_secondsAccounted (valid : Bool) (hs : SecondsAccounted s) :
    SecondsAccounted (readStore valid (volatileReset s)) := by
  cases valid with
  | true => exact hs
  | false =>
    obtain ⟨-, -, -, -, -, -, hreset, -⟩ := resetMeetsInvariants
    exact hreset

theorem powerUp_secondsAccounted (valid : Bool) (hs : SecondsAccounted s) : SecondsAccounted (powerUp valid s) := by
  refine secondsAccounted_congr ?_ (readStore_secondsAccounted valid hs)
  calc secondsView (powerUp valid s)
    _ = secondsView (checkTally (countPowerEvent (chooseMode (readStore valid (volatileReset s))))) := rfl
    _ = secondsView (readStore valid (volatileReset s)) := by
      rw [secondsView_checkTally, secondsView_countPowerEvent, secondsView_chooseMode]

theorem execPowerOn_secondsAccounted {valid : Bool} (hs : SecondsAccounted s) (h : execPowerOn valid s = .next t) :
    SecondsAccounted t := by
  unfold execPowerOn at h
  split at h <;> cases h
  · exact powerUp_secondsAccounted valid hs
  · exact powerUp_secondsAccounted valid hs
  · exact hs
  · exact hs

theorem execResetAsserted_secondsAccounted (hs : SecondsAccounted s) (h : execResetAsserted s = .next t) :
    SecondsAccounted t := by
  unfold execResetAsserted at h
  split at h <;> cases h <;> exact hs

theorem execResetReleased_secondsAccounted {valid : Bool} (hs : SecondsAccounted s)
    (h : execResetReleased valid s = .next t) : SecondsAccounted t := by
  unfold execResetReleased at h
  split at h <;> cases h
  · exact powerUp_secondsAccounted valid hs
  · exact hs
  · exact hs
  · exact hs

theorem execReadTransaction_secondsAccounted {clocked : Nat} (hs : SecondsAccounted s)
    (h : execReadTransaction p clocked s = .next t) : SecondsAccounted t := by
  unfold execReadTransaction at h
  split at h <;> cases h <;> exact hs

/-! #### Requests -/

/-- A checked request whose effect touches none of the seconds. -/
theorem request_secondsView {r : State → Response} (h : request p code (fun s => checked (checks s) s (r s)) s = .next t)
    (hs : SecondsAccounted s) (hr : secondsView (r s).state = secondsView s) : SecondsAccounted t :=
  request_checked_keeps keptByAnswer_secondsAccounted h hs fun _ => secondsAccounted_congr hr hs

theorem secondsView_refuseMove (code : Nat) (c : ReplyCode) (s : State) :
    secondsView (refuseMove code c s).state = secondsView s := by
  unfold refuseMove
  split <;> rfl

/-- A move whose effect touches none of the seconds: its refusals touch none. -/
theorem moveRequest_secondsView {effect : State → State} (h : moveRequest p code checks effect s = .next t)
    (hs : SecondsAccounted s) (he : secondsView (effect s) = secondsView s) : SecondsAccounted t :=
  moveRequest_keeps keptByAnswer_secondsAccounted h hs
    (fun c => secondsAccounted_congr (secondsView_refuseMove code c s) hs) fun _ => secondsAccounted_congr he hs

theorem secondsView_recheck (s : State) : secondsView (recheck s) = secondsView s :=
  secondsView_of_meter_job (by simp) (by simp)

/-- R47: a move of the string ends in a depth computation, and the re-check of R173. -/
theorem secondsView_recheck_depthCompute (s : State) : secondsView (recheck (depthCompute s)) = secondsView s :=
  (secondsView_recheck _).trans (secondsView_depthCompute s)

theorem secondsView_releaseSlipsTaken (s : State) : secondsView (releaseSlipsTaken s) = secondsView s :=
  secondsView_recheck_depthCompute _

theorem secondsView_countJoint (serials : List Nat) (s : State) : secondsView (countJoint serials s) = secondsView s :=
  secondsView_of_meter_job (by simp) (by simp)

theorem secondsView_makeJointTaken (s : State) : secondsView (makeJointTaken s) = secondsView s :=
  (secondsView_recheck _).trans ((secondsView_countJoint _ _).trans (secondsView_depthCompute _))

theorem secondsView_resolveTaken (destination slot : Nat) (s : State) :
    secondsView (resolveTaken destination slot s) = secondsView s := by
  unfold resolveTaken
  split
  · exact secondsView_recheck_depthCompute _
  · exact secondsView_recheck _
  · exact secondsView_recheck _

theorem execReleaseSlips_secondsAccounted {pins : SensePins} (hs : SecondsAccounted s)
    (h : execReleaseSlips p pins s = .next t) : SecondsAccounted t := by
  have hsensed : SecondsAccounted (sensePermits pins s) := hs
  refine writeTransaction_keeps keptByAnswer_secondsAccounted h hs (respond_keeps keptByAnswer_secondsAccounted ?_)
  exact judgedMove_keeps (fun c => secondsAccounted_congr (secondsView_refuseMove _ c _) hsensed)
    fun _ => secondsAccounted_congr (secondsView_releaseSlipsTaken _) hsensed

theorem execReadTally_secondsAccounted {pins : SensePins} (hs : SecondsAccounted s)
    (h : execReadTally p pins s = .next t) : SecondsAccounted t :=
  writeTransaction_keeps keptByAnswer_secondsAccounted h hs (respond_keeps keptByAnswer_secondsAccounted hs)

theorem execBadFrame_secondsAccounted (hs : SecondsAccounted s) (h : execBadFrame p code s = .next t) :
    SecondsAccounted t := writeTransaction_keeps keptByAnswer_secondsAccounted h hs hs

theorem execUnknownRequest_secondsAccounted (hs : SecondsAccounted s) (h : execUnknownRequest p code s = .next t) :
    SecondsAccounted t := writeTransaction_keeps keptByAnswer_secondsAccounted h hs hs

/-- R142, R144: the checks of a close find a job open, and room in the closed list. -/
theorem closeChecks_pass {before : List (Bool × ReplyCode)}
    (h : firstFailing (before ++ [(!s.job.isOpen, .incomplete), closedFull s]) = none) :
    s.job.isOpen = true ∧ s.meter.closed.length < Config.maxClosed := by
  rw [firstFailing_append, Option.or_eq_none_iff] at h
  obtain ⟨-, hclose⟩ := h
  rw [firstFailing_eq_none_iff] at hclose
  simpa [closedFull] using hclose

/-- R142, R195: a close whose effect keeps the seconds accounted with a job open and room in the closed list. -/
theorem closeRequest_secondsAccounted {before : State → List (Bool × ReplyCode)} {effect : State → State}
    (h : request p code (fun s => checked (before s ++ [(!s.job.isOpen, .incomplete), closedFull s]) s (taken (effect s))) s =
      .next t) (hs : SecondsAccounted s)
    (he : s.job.isOpen = true → s.meter.closed.length < Config.maxClosed → SecondsAccounted (effect s)) :
    SecondsAccounted t :=
  request_checked_keeps keptByAnswer_secondsAccounted h hs fun hpass =>
    have ⟨hjob, hroom⟩ := closeChecks_pass hpass
    he hjob hroom

theorem execCloseTicket_secondsAccounted {reference : Nat} (hs : SecondsAccounted s)
    (h : execCloseTicket p reference s = .next t) : SecondsAccounted t :=
  closeRequest_secondsAccounted (before := fun _ => [onlyFrom [.record] p]) h hs
    (closeOpenTicket_secondsAccounted reference hs)

theorem execCloseJob_secondsAccounted {reference : Nat} (hs : SecondsAccounted s)
    (h : execCloseJob p reference s = .next t) : SecondsAccounted t :=
  closeRequest_secondsAccounted (before := fun s => [onlyFrom [.record] p, onlyInSetup s]) h hs
    (closeJobTaken_secondsAccounted reference hs)

theorem execEnterStandby_secondsAccounted (hs : SecondsAccounted s) (h : execEnterStandby p s = .next t) :
    SecondsAccounted t := by
  refine request_keeps keptByAnswer_secondsAccounted h hs ?_
  split
  · exact hs
  · split
    · exact secondsAccounted_of_meter_job (by simp) (by simp) hs
    · exact hs

/-- A checked request whose effect leaves the metering unit and the job alone. -/
theorem request_meter_job {r : State → Response} (h : request p code (fun s => checked (checks s) s (r s)) s = .next t)
    (hs : SecondsAccounted s) (hmeter : (r s).state.meter = s.meter) (hjob : (r s).state.job = s.job) :
    SecondsAccounted t := request_secondsView h hs (secondsView_of_meter_job hmeter hjob)

theorem exec_secondsAccounted (c : Instr) (hs : SecondsAccounted s) (h : exec c s = .next t) : SecondsAccounted t := by
  cases c with
  | deviceSecond => exact whileRunning_keeps h hs (secondPasses_secondsAccounted _ hs)
  | closeTicket => exact execCloseTicket_secondsAccounted hs h
  | acknowledgeTicket =>
    exact request_checked_keeps keptByAnswer_secondsAccounted h hs fun _ => acknowledged_secondsAccounted hs
  | openJob =>
    exact request_checked_keeps keptByAnswer_secondsAccounted h hs fun _ => openJobTaken_secondsAccounted _ _ _ hs
  | closeJob => exact execCloseJob_secondsAccounted hs h
  | additive => exact request_secondsView h hs (secondsView_accrueAdditive ..)
  | classify => exact request_secondsView h hs (secondsView_postBand ..)
  | merge => exact request_secondsView h hs (secondsView_mergeTaken ..)
  | setBandRates => exact request_secondsView h hs (secondsView_setBandRatesTaken ..)
  | block | setBha => exact request_secondsView h hs (secondsView_depthCompute _)
  | setSlips | breakJoint => exact moveRequest_secondsView h hs (secondsView_recheck_depthCompute _)
  | releaseSlips => exact execReleaseSlips_secondsAccounted hs h
  | makeJoint => exact moveRequest_secondsView h hs (secondsView_makeJointTaken s)
  | resolveRod => exact moveRequest_secondsView h hs (secondsView_resolveTaken ..)
  | unlatch | latch | pickRod | stab | rackRod | layOutRod =>
    refine moveRequest_secondsView h hs (secondsView_of_meter_job ?_ ?_) <;>
      simp [pickRodTaken, rackHeldRod, layOutHeldRod]
  | makeupExpired | circStale | permitFault | pendingModeTaken | sampleArrival =>
    exact whileRunning_keeps h hs (secondsAccounted_of_meter_job (by simp) (by simp) hs)
  | powerOn => exact execPowerOn_secondsAccounted hs h
  | resetAsserted => exact execResetAsserted_secondsAccounted hs h
  | resetReleased => exact execResetReleased_secondsAccounted hs h
  | powerLoss => cases h; exact hs
  | readTransaction => exact execReadTransaction_secondsAccounted hs h
  | readTally => exact execReadTally_secondsAccounted hs h
  | badFrame => exact execBadFrame_secondsAccounted hs h
  | unknownRequest => exact execUnknownRequest_secondsAccounted hs h
  | portReset | readNotice | readSummary =>
    exact request_keeps keptByAnswer_secondsAccounted h hs
      (secondsAccounted_of_meter_job (s := s) (by simp) (by simp) hs)
  | readRod | readRodList | readSlot | readLaidOutList | readWearLimits | readStack | readBha | readMakeupLimits
  | readDepth | readCirculation | readChannel | readPumps | readCasingProgram | readAnnulus | readLagQueue | readLog
  | readInterval | readIntervalAtDepth | readSamples | readTicket | readRateCard | readJobTotals | readNoticeStatus
  | readNoticeLevels | readMode | readPortStatus | readJob => exact readRequest_keeps keptByAnswer_secondsAccounted h hs
  | rackSense =>
    refine request_secondsView h hs ?_
    exact foldl_keeps secondsView (fun s n => raise .rackDiscrepancy n 0 s) (fun _ _ => rfl) _ _
  | enterSetup | enterRun =>
    refine request_meter_job h hs ?_ ?_ <;> split <;> simp [refuseIncomplete]
  | enterStandby => exact execEnterStandby_secondsAccounted hs h
  | registerRod | deleteRod | restoreRod | setWearLimits | setSlotSensing | setMakeupLimits | downStart | downEnd
  | setPump | setCirculationLimits | circulation | setCasingProgram | sampleCaught | setDrillBreak | reArm | confirm
  | split | waterStrike | clearWaterStrike | setTierMultipliers | setHourlyRates | setAdditivePrices | setNoticeLevels
  | setNoticeFilter | enterWatch | cancelMode | setWakeTable =>
    exact request_secondsView h hs (by simp [secondsView, registerRodTaken, restoreRodTaken, setCard])

end

/-- Settles O11: a second at which the clock advances stands once on a line and once in the totals, neither of which saturates below
the clock's own limit (`clockSecond_secondsAccounted`); a close ends the old ticket and starts the new one at one clock; a new job
starts with all of them at 0; accrual and rebanding change lines that count no second. -/
theorem stepKeepsSecondsAccounted : Obligations.StepKeepsSecondsAccounted := fun s t hs h =>
  step_keeps SecondsAccounted (fun _ _ h => h) (fun c _ _ hs h => exec_secondsAccounted c hs h) s t hs h

end Sys2Proof.Machine

namespace Sys2Proof.Machine

/-! ### The second that a device second credits (R135, R193) -/

section
variable {s : State}

theorem clockSecond_idle (h : ¬ (s.job.isOpen = true ∧ s.job.clock < 4294967295)) : clockSecond s = s := by
  rw [clockSecond_eq, jobSecond, if_neg h]

theorem clockSecond_advances (hjob : s.job.isOpen = true) (hclock : s.job.clock < 4294967295) :
    clockSecond s = creditSecond (s.setJob { s.job with clock := s.job.clock + 1 }) := by
  rw [clockSecond_eq, jobSecond, if_pos ⟨hjob, hclock⟩]
  rfl

/-- R135: the line of a second, mode by mode. -/
theorem secondLine_eq (m : Mode) (a : Activity) :
    secondLine m a =
      match m with
      | .run => .time a
      | .watch => .unwitnessed
      | .setup => .setup
      | .standby => .time .idle := by
  cases m <;> rfl

/-- The state of a second when the log has its credit: the job clock comes last (log entry 5). -/
def secondLogged (pins : SensePins) (s : State) : State := logSecond (deriveActivity (secondCompared pins s))

theorem secondPasses_clock (pins : SensePins) (s : State) : secondPasses pins s = clockSecond (secondLogged pins s) := rfl

@[simp] theorem secondLogged_meter (pins : SensePins) (s : State) : (secondLogged pins s).meter = s.meter := by
  simp [secondLogged, secondCompared_meter]

@[simp] theorem secondLogged_job (pins : SensePins) (s : State) : (secondLogged pins s).job = s.job := by
  simp [secondLogged]

end

/-- Settles O32: the credit in every state (`creditSecond_eq`), and the metering unit of a second, whose earlier work leaves it and
the job alone (`secondLogged`). -/
theorem deviceSecondCreditsOneLine : Obligations.DeviceSecondCreditsOneLine := by
  refine ⟨?credit, fun pins s h => ⟨secondPasses pins s, whileRunning_running _ s h, fun hidle => ?idle, ?advance⟩⟩
  case credit =>
    intro s key one n seconds
    rw [creditSecond_eq, secondLine_eq]
    rfl
  case idle =>
    rw [secondPasses_clock, clockSecond_idle (by simpa using hidle), secondLogged_meter]
  case advance =>
    intro ticket hjob hclock hticket key one n seconds
    have hline : key = secondLine (secondLogged pins s).modes.mode (secondLogged pins s).depth.activity := by
      have hkey : key = secondLine (secondPasses pins s).modes.mode (secondPasses pins s).depth.activity :=
        (secondLine_eq _ _).symm
      simp only [hkey, secondPasses_clock, clockSecond_frame]
    have hplace : n = (secondLogged pins s).depth.activity.code := by
      simp only [n, secondPasses_clock, clockSecond_frame]
    have hcredited : secondPasses pins s = creditSecond ((secondLogged pins s).setJob
        { s.job with clock := s.job.clock + 1 }) := by
      rw [secondPasses_clock, clockSecond_advances (by simpa using hjob) (by simpa using hclock), secondLogged_job]
    rw [hcredited, creditSecond_eq]
    simp only [State.setJob_modes, State.setJob_depth, State.setJob_meter, secondLogged_meter, hticket, ← hline, ← hplace]
    rfl

end Sys2Proof.Machine

namespace Sys2Proof.Machine

/-! ### The pieces of an increment by tier (R128) -/

/-- The millimetres that some pieces hold in a tier. -/
def mmOf (tier : Nat) (pieces : List (Nat × Nat)) : Nat := (pieces.map fun x => if x.1 = tier then x.2 else 0).sum

theorem mmOf_append (tier : Nat) (xs ys : List (Nat × Nat)) : mmOf tier (xs ++ ys) = mmOf tier xs + mmOf tier ys := by
  simp [mmOf]

/-- R128: the piece of (p, q] in one tier, none where the tier is not reached. -/
def tierPiece (p q tier : Nat) : Option (Nat × Nat) :=
  let lo := max p (Config.tierHeight * tier)
  let hi := min q (Config.tierHeight * (tier + 1))
  if lo < hi then some (tier, hi - lo) else none

theorem mmOf_tierPiece (p q n tier : Nat) :
    mmOf tier (tierPiece p q n).toList = if n = tier then mmInTier tier p q else 0 := by
  have hpiece : tierPiece p q n = if 0 < mmInTier n p q then some (n, mmInTier n p q) else none :=
    ite_congr (propext Nat.sub_pos_iff_lt.symm) (fun _ => rfl) fun _ => rfl
  rcases Nat.eq_zero_or_pos (mmInTier n p q) with hempty | hreached
  · rw [hpiece, hempty]
    by_cases hn : n = tier
    · simp [mmOf, ← hn, hempty]
    · simp [mmOf, hn]
  · rw [hpiece, if_pos hreached]
    by_cases hn : n = tier <;> simp [mmOf, hn]

/-- R128: the pieces in the first `n` tiers hold what (p, q] has there. -/
theorem mmOf_firstTiers (p q n tier : Nat) :
    mmOf tier ((List.range n).filterMap (tierPiece p q)) = if tier < n then mmInTier tier p q else 0 := by
  induction n with
  | zero => rfl
  | succ n ih =>
    have hlast : (List.filterMap (tierPiece p q) [n]) = (tierPiece p q n).toList := by
      cases h : tierPiece p q n <;> simp [h]
    rw [List.range_succ, List.filterMap_append, mmOf_append, ih, hlast, mmOf_tierPiece]
    rcases Nat.lt_trichotomy tier n with hlt | heq | hgt
    · rw [if_pos hlt, if_neg (by omega), if_pos (by omega), Nat.add_zero]
    · rw [if_neg (by omega), if_pos heq.symm, if_pos (by omega), Nat.zero_add]
    · rw [if_neg (by omega), if_neg (by omega), if_neg (by omega)]

theorem mmOf_tierPieces {tier : Nat} (h : tier < 8) (p q : Nat) : mmOf tier (tierPieces p q) = mmInTier tier p q :=
  (mmOf_firstTiers p q 8 tier).trans (if_pos h)

theorem tier_lt_of_mem_tierPieces {p q : Nat} {x : Nat × Nat} (h : x ∈ tierPieces p q) : x.1 < 8 := by
  obtain ⟨tier, htier, hpiece⟩ := List.mem_filterMap.mp (show x ∈ (List.range 8).filterMap (tierPiece p q) from h)
  unfold tierPiece at hpiece
  simp only [Option.ite_none_right_eq_some, Option.some.injEq] at hpiece
  obtain ⟨-, rfl⟩ := hpiece
  exact List.mem_range.mp htier

/-! ### FOOTAGE lines and the footage of the job totals (R134, R146) -/

section
variable {band : Band}

/-- R134: the lines of a ticket with some pieces on the FOOTAGE lines of a band. -/
def footageLines (band : Band) (pieces : List (Nat × Nat)) (ls : List Line) : List Line :=
  pieces.foldl (fun ls piece => updateLine (.footage band piece.1) (addQuantity piece.2) ls) ls

/-- R134: the footage of the job totals with some pieces in the fields of a band. -/
def footageTotals (band : Band) (pieces : List (Nat × Nat)) (xs : List Nat) : List Nat :=
  pieces.foldl (fun xs piece => modifyAt (footageIndex band piece.1) (· + piece.2) xs) xs

theorem accruePiece_eq (band : Band) (piece : Nat × Nat) (s : State) :
    accruePiece band piece s = { s with meter := { s.meter with
      openTicket := s.meter.openTicket.map fun t =>
        { t with lines := updateLine (.footage band piece.1) (addQuantity piece.2) t.lines },
      totals := { s.meter.totals with
        footage := modifyAt (footageIndex band piece.1) (· + piece.2) s.meter.totals.footage } } } := by
  rw [accruePiece, updateOpenLine_eq]
  rfl

theorem foldl_accruePiece (pieces : List (Nat × Nat)) (s : State) :
    pieces.foldl (fun s piece => accruePiece band piece s) s = { s with meter := { s.meter with
      openTicket := s.meter.openTicket.map fun t => { t with lines := footageLines band pieces t.lines },
      totals := { s.meter.totals with footage := footageTotals band pieces s.meter.totals.footage } } } := by
  induction pieces generalizing s with
  | nil => cases h : s.meter.openTicket <;> simp [footageLines, footageTotals, ← h]
  | cons piece pieces ih =>
    rw [List.foldl_cons, ih, accruePiece_eq]
    simp [Function.comp_def, footageLines, footageTotals]

/-- R134: an increment accrued, in every state. -/
theorem accrueFootage_eq (band : Band) (a b : Nat) (s : State) :
    accrueFootage band a b s = { s with meter := { s.meter with
      openTicket := s.meter.openTicket.map fun t => { t with lines := footageLines band (tierPieces a b) t.lines },
      totals := { s.meter.totals with footage := footageTotals band (tierPieces a b) s.meter.totals.footage } } } :=
  foldl_accruePiece (tierPieces a b) s

/-! #### What each key holds -/

/-- What a line adds to the sum of a measure under a key. -/
def underKey (k : LineKey) (measure : Line → Int) (l : Line) : Int := if l.key = k then measure l else 0

theorem sum_filter_key (k : LineKey) (measure : Line → Int) (ls : List Line) :
    ((ls.filter fun l => l.key = k).map measure).sum = (ls.map (underKey k measure)).sum := by
  induction ls with
  | nil => rfl
  | cons l ls ih =>
    by_cases h : l.key = k
    · simp [underKey, h, ih]
    · simp [underKey, h, ih]

theorem quantityOn_eq (k : LineKey) (t : Ticket) : quantityOn k t = (t.lines.map (underKey k Line.quantity)).sum :=
  sum_filter_key k _ _

theorem centsOn_eq (k : LineKey) (t : Ticket) : centsOn k t = (t.lines.map (underKey k Line.cents)).sum :=
  sum_filter_key k _ _

/-- R133: a quantity added under one key is added to what the ticket holds there, and to nothing under another key. -/
theorem quantity_updateLine_addQuantity (k k' : LineKey) (n : Int) (ls : List Line) :
    ((updateLine k' (addQuantity n) ls).map (underKey k Line.quantity)).sum =
      (ls.map (underKey k Line.quantity)).sum + if k' = k then n else 0 := by
  refine updateLine_sum _ (by simp [underKey, addQuantity, newLine]) fun l _ hl => ?_
  by_cases h : k' = k <;> simp [underKey, addQuantity, hl, h]

/-- R133: no cents come with a quantity. -/
theorem cents_updateLine_addQuantity (k k' : LineKey) (n : Int) (ls : List Line) :
    ((updateLine k' (addQuantity n) ls).map (underKey k Line.cents)).sum = (ls.map (underKey k Line.cents)).sum := by
  refine (updateLine_sum _ (n := 0) (ite_self _) fun l _ _ => ?_).trans (Int.add_zero _)
  rw [Int.add_zero]
  rfl

theorem cents_footageLines (k : LineKey) (pieces : List (Nat × Nat)) (ls : List Line) :
    ((footageLines band pieces ls).map (underKey k Line.cents)).sum = (ls.map (underKey k Line.cents)).sum := by
  induction pieces generalizing ls with
  | nil => rfl
  | cons piece pieces ih => exact (ih _).trans (cents_updateLine_addQuantity ..)

theorem quantity_footageLines (tier : Nat) (pieces : List (Nat × Nat)) (ls : List Line) :
    ((footageLines band pieces ls).map (underKey (.footage band tier) Line.quantity)).sum =
      (ls.map (underKey (.footage band tier) Line.quantity)).sum + mmOf tier pieces := by
  induction pieces generalizing ls with
  | nil => simp [footageLines, mmOf]
  | cons piece pieces ih =>
    refine (ih _).trans ?_
    rw [quantity_updateLine_addQuantity]
    by_cases htier : piece.1 = tier <;> simp [mmOf, htier, Int.add_assoc]

theorem quantity_footageLines_other {k : LineKey} {pieces : List (Nat × Nat)}
    (h : ∀ piece ∈ pieces, k ≠ .footage band piece.1) (ls : List Line) :
    ((footageLines band pieces ls).map (underKey k Line.quantity)).sum = (ls.map (underKey k Line.quantity)).sum := by
  induction pieces generalizing ls with
  | nil => rfl
  | cons piece pieces ih =>
    obtain ⟨hfirst, hrest⟩ := List.forall_mem_cons.mp h
    refine (ih hrest _).trans ?_
    rw [quantity_updateLine_addQuantity, if_neg hfirst.symm, Int.add_zero]

/-! #### What each field of the job totals holds -/

theorem band_code_lt (b : Band) : b.code < 4 := by cases b <;> decide

theorem footageIndex_inj {b c : Band} {t u : Nat} (ht : t < 8) (hu : u < 8) :
    footageIndex b t = footageIndex c u ↔ b = c ∧ t = u := by
  cases b <;> cases c <;> simp [footageIndex, Band.code] <;> omega

theorem modifyAt_getElem? (n i : Nat) (f : Nat → Nat) (xs : List Nat) (h : n < xs.length) :
    (modifyAt n f xs)[i]? = xs[i]?.map fun v => if n = i then f v else v := by
  rw [modifyAt, List.getElem?_set]
  by_cases hi : n = i
  · subst hi
    simp [h]
  · simp [hi]

theorem length_modifyAt (n : Nat) (f : Nat → Nat) (xs : List Nat) : (modifyAt n f xs).length = xs.length :=
  List.length_set

theorem footageTotals_getElem? {pieces : List (Nat × Nat)} (hpieces : ∀ piece ∈ pieces, piece.1 < 8) (other : Band)
    {tier : Nat} (htier : tier < 8) {xs : List Nat} (hxs : xs.length = 32) :
    (footageTotals band pieces xs)[footageIndex other tier]? =
      xs[footageIndex other tier]?.map fun v => if other = band then v + mmOf tier pieces else v := by
  induction pieces generalizing xs with
  | nil => simp [footageTotals, mmOf]
  | cons piece pieces ih =>
    obtain ⟨hfirst, hrest⟩ := List.forall_mem_cons.mp hpieces
    have hplace : footageIndex band piece.1 < xs.length := by
      have := band_code_lt band
      simp only [footageIndex, hxs]
      omega
    refine (ih hrest ((length_modifyAt ..).trans hxs)).trans ?_
    rw [modifyAt_getElem? _ _ _ _ hplace, Option.map_map]
    refine congrFun (congrArg Option.map (funext fun v => ?_)) _
    simp only [Function.comp_apply, footageIndex_inj hfirst htier]
    by_cases hband : other = band
    · subst hband
      by_cases hpiece : piece.1 = tier <;> simp [hpiece, mmOf, Nat.add_assoc]
    · simp [hband, Ne.symm hband]

end

/-- Settles O47: the lines and the fields that an increment reaches (`accrueFootage_eq`), and what the pieces hold tier by tier
(`mmOf_tierPieces`). -/
theorem footageAccruesByTier : Obligations.FootageAccruesByTier := by
  refine ⟨fun band a b s => by rw [accrueFootage_eq], fun band a b ticket s hticket _ hlength => ?_⟩
  rw [accrueFootage_eq]
  refine ⟨{ ticket with lines := footageLines band (tierPieces a b) ticket.lines }, by simp [hticket], rfl,
    fun tier htier => ?quantity, fun k hk => ?other, fun k => ?cents, fun other tier htier => ?totals, rfl, rfl⟩
  case quantity => rw [quantityOn_eq, quantityOn_eq, quantity_footageLines, mmOf_tierPieces htier]
  case other =>
    rw [quantityOn_eq, quantityOn_eq]
    exact quantity_footageLines_other (fun piece hpiece => hk piece.1 (tier_lt_of_mem_tierPieces hpiece)) _
  case cents => rw [centsOn_eq, centsOn_eq, cents_footageLines]
  case totals =>
    rw [← mmOf_tierPieces htier]
    exact footageTotals_getElem? (fun _ => tier_lt_of_mem_tierPieces) other htier hlength

end Sys2Proof.Machine

namespace Sys2Proof.Machine

/-! ### Rebanding on a new default band (R118, R130) -/

section
variable {s : State}

/-- R118: the call for an interval of the log, by the rule; its own band posted is all that changes of the log. -/
theorem postBand_eq {n : Nat} (h : n < s.log.intervals.length) :
    postBand n s = reposted n s.log.intervals[n] (effectiveBand s.meter.card s.log.intervals[n]) s := by
  have hposted : ∀ b : Band, modifyInterval n (fun x => { x with posted := b }) s.log =
      { s.log with intervals := s.log.intervals.set n { s.log.intervals[n] with posted := b } } := fun b => by
    rw [modifyInterval, modify_eq_set_of_getElem? (List.getElem?_eq_getElem h)]
  unfold postBand reposted
  simp only [intervalAt_eq (List.getElem?_eq_getElem h), bottomOf]
  split
  · rfl
  · simp only [State.setLog, reband_frame, hposted]

/-- R118, R130: an interval of the log without a band is reposted by the rule; one with a band stays. -/
theorem postBand_unclassified {n : Nat} (h : n < s.log.intervals.length) :
    (if (intervalAt s.log n).band.isNone then postBand n s else s) = repostedIfUnclassified s n := by
  simp only [repostedIfUnclassified, List.getElem?_eq_getElem h, intervalAt_eq (List.getElem?_eq_getElem h), Option.isNone_iff_eq_none]
  split
  next hband => rw [postBand_eq h, effectiveBand, hband, Option.getD_none]
  next => rfl

theorem length_repostedIfUnclassified (n : Nat) (s : State) :
    (repostedIfUnclassified s n).log.intervals.length = s.log.intervals.length := by
  unfold repostedIfUnclassified reposted
  split
  · rfl
  · split
    · split <;> simp
    · rfl

/-- R118, R130: the intervals without a band, in ascending index. -/
theorem postUnclassified_eq (s : State) :
    postUnclassified s = (List.range s.log.intervals.length).foldl repostedIfUnclassified s := by
  have hfold : ∀ (indices : List Nat) (s : State), (∀ n ∈ indices, n < s.log.intervals.length) →
      indices.foldl (fun s n => if (intervalAt s.log n).band.isNone then postBand n s else s) s =
        indices.foldl repostedIfUnclassified s := by
    intro indices
    induction indices with
    | nil => exact fun _ _ => rfl
    | cons n indices ih =>
      intro s h
      obtain ⟨hfirst, hrest⟩ := List.forall_mem_cons.mp h
      rw [List.foldl_cons, List.foldl_cons, postBand_unclassified hfirst]
      exact ih _ (by simpa only [length_repostedIfUnclassified] using hrest)
  exact hfold _ s fun n hn => List.mem_range.mp hn

end

/-! ### The checks of a rate-card write (R129) -/

section
variable {p : Port} {code : Nat} {s next : State}

theorem pricedLineOpen_iff (s : State) :
    pricedLineOpen s = true ↔
      s.job.isOpen = true ∧ ∃ t ∈ s.meter.openTicket, ∃ l ∈ t.lines, l.key ≠ .unwitnessed ∧ l.key ≠ .setup := by
  have hpriced : ∀ k : LineKey, k.priced = true ↔ k ≠ .unwitnessed ∧ k ≠ .setup := fun k => by
    cases k <;> simp [LineKey.priced]
  unfold pricedLineOpen
  cases s.meter.openTicket <;> simp [hpriced]

/-- R129: the four checks in order, and then what the write does. -/
theorem settledBy_cardChecks {refused : Bool} {q : Prop} [Decidable q] {r : Response} (hq : refused = true ↔ q)
    (hnext : ¬ q → settledBy p code r = next) :
    settledBy p code (checked (cardChecks p refused s) s r) = cardOutcome p code q s next := by
  refine settledBy_check (onlyFrom_record p) fun _ => ?_
  refine settledBy_check (onlyInSetup_iff s) fun _ => ?_
  refine settledBy_check hq fun hrange => ?_
  refine settledBy_check (pricedLineOpen_iff s) fun _ => ?_
  exact hnext hrange

end

/-- R128, R131: the rates of a list all lie in their range. -/
theorem ratesRefused_iff (hi : Nat) (rates : List Nat) :
    (readAll (inRange 0 hi) rates).isNone = true ↔ ∃ v ∈ rates, hi < v := by
  simp only [readAll_isNone, inRange_isNone, Nat.zero_le, true_and, Nat.not_le]

theorem bandOf_isNone (v : Nat) : (bandOf v).isNone = true ↔ 3 < v := by
  rcases v with _ | _ | _ | _ | v <;> simp [bandOf]

/-- R183: a band by its code. -/
theorem bandOf_named {v : Nat} (h : ¬ 3 < v) : bandOf v = some (bandNamed v) := by
  rcases v with _ | _ | _ | _ | v
  case succ.succ.succ.succ => omega
  all_goals rfl

/-- R130: a multiplier is 0, or in its range. -/
theorem multipliersRefused_iff (multipliers : List Nat) :
    (!multipliers.all multiplierOk) = true ↔ ∃ v ∈ multipliers, v ≠ 0 ∧ ¬ (500 ≤ v ∧ v ≤ 4000) := by
  have hone : ∀ v, multiplierOk v = false ↔ v ≠ 0 ∧ ¬ (500 ≤ v ∧ v ≤ 4000) := fun v => by
    simp [multiplierOk, inRange]
  simp only [Bool.not_eq_true', List.all_eq_false, Bool.not_eq_true, hone]

/-- Settles O49: the checks of R129 in order (`settledBy_cardChecks`), and then the group stored; a new default band reposts index by
index (`postUnclassified_eq`). -/
theorem rateCardWrites : Obligations.RateCardWrites := by
  refine ⟨fun p rates defaultBand s h => request_eq h ?bands, fun p multipliers s h => request_eq h ?multipliers,
    fun p rates s h => request_eq h ?hourly, fun p prices s h => request_eq h ?prices⟩
  case bands =>
    refine settledBy_cardChecks (by rw [Bool.or_eq_true, ratesRefused_iff, bandOf_isNone]) fun hrange => ?_
    obtain ⟨-, hcode⟩ := not_or.mp hrange
    rw [bandOf_named hcode, settledBy_taken]
    refine congrArg (settled p 64 .ok []) (ite_congr rfl (fun _ => ?_) fun _ => rfl)
    exact postUnclassified_eq _
  case multipliers => exact settledBy_cardChecks (multipliersRefused_iff multipliers) fun _ => settledBy_taken ..
  case hourly => exact settledBy_cardChecks (ratesRefused_iff _ rates) fun _ => settledBy_taken ..
  case prices => exact settledBy_cardChecks (ratesRefused_iff _ prices) fun _ => settledBy_taken ..

end Sys2Proof.Machine

namespace Sys2Proof.Machine

/-! ### The amounts of a ticket (R137, R138) -/

/-- R137: half up, over a denominator that is even. -/
theorem roundHalfUp_even (num half : Nat) : roundHalfUp num (2 * half) = nearest num (2 * half) := by
  have hhalf : 2 * half / 2 = half := Nat.mul_div_cancel_left half (by decide)
  rw [roundHalfUp, nearest, hhalf, ← Nat.mul_add, Nat.mul_div_mul_left _ _ (by decide)]

theorem rawAmount_eq (card : RateCard) : rawAmount card = unlimitedAmount card := by
  funext l
  unfold rawAmount unlimitedAmount
  cases l.key with
  | footage b tier => exact congrArg (fun n : Nat => some (n : Int)) (roundHalfUp_even _ 500000)
  | time a => exact congrArg (fun n : Nat => some (n : Int)) (roundHalfUp_even _ 5)
  | additive | adjustment | unwitnessed | setup => rfl

theorem limitAmount_eq (v : Int) : limitAmount v = limited v := by
  simp only [limitAmount, limited, Config.maxAmount]
  omega

theorem amountOf_eq (card : RateCard) : amountOf card = fun l => (unlimitedAmount card l).map limited := by
  have hlimit : limitAmount = limited := funext limitAmount_eq
  funext l
  rw [amountOf, rawAmount_eq, hlimit]

theorem overLimit_eq (v : Int) : overLimit v = (limited v != v) := by rw [overLimit, limitAmount_eq]

/-- The amounts of the priced lines, before their limit. -/
theorem filterMap_rawAmount (card : RateCard) (ls : List Line) :
    ls.filterMap (rawAmount card) = (ls.map (unlimitedAmount card)).filterMap id := by
  rw [List.filterMap_map, rawAmount_eq]
  rfl

theorem rawTotal_eq (card : RateCard) (ls : List Line) :
    rawTotal card ls = (((ls.map (unlimitedAmount card)).filterMap id).map limited).sum := by
  rw [rawTotal, ← filterMap_rawAmount, List.map_filterMap, amountOf_eq, rawAmount_eq]

/-- R137, R138, R142: a ticket priced, field by field. -/
theorem priced_eq (card : RateCard) (reference clock hole : Nat) (t : Ticket) :
    priced card reference clock hole t = closedTicket card reference clock hole t := by
  have hover : overLimit = fun v => limited v != v := funext overLimit_eq
  simp only [priced, closedTicket, saturates, limitAmount_eq, rawTotal_eq, filterMap_rawAmount, amountOf_eq, hover]

/-! ### CLOSE TICKET and ACKNOWLEDGE TICKET (R142, R145) -/

/-- R142: the open ticket filed, and the next one opened. -/
theorem closeOpenTicket_reopen {s : State} {ticket : Ticket} (reference : Nat) (h : s.meter.openTicket = some ticket) :
    closeOpenTicket reference true s = (ticketFiled reference ticket s).setMeter { (ticketFiled reference ticket s).meter with
      openTicket := some (newTicket (nextNumber ticket.number) s.job.clock (holeDepth s)) } := by
  unfold closeOpenTicket
  simp only [h, priced_eq]
  rfl

/-- Settles O50: the checks one by one; the ticket is priced by `priced_eq` and filed by `closeOpenTicket_reopen`, and the head of
the closed list is removed by definition. -/
theorem ticketsClosedAndAcknowledged : Obligations.TicketsClosedAndAcknowledged := by
  refine ⟨fun p reference ticket s h hticket => request_eq h ?close, fun p number s h => request_eq h ?acknowledge⟩
  case close =>
    refine settledBy_check (onlyFrom_record p) fun _ => ?_
    refine settledBy_check (by simp) fun hjob => ?_
    refine settledBy_check decide_eq_true_iff fun _ => ?_
    rw [settledBy_checked_nil, settledBy_taken, closeOpenTicket_reopen reference (hticket (by simpa using hjob))]
    rfl
  case acknowledge =>
    refine settledBy_check (onlyFrom_record p) fun _ => ?_
    cases hclosed : s.meter.closed with
    | nil => simp
    | cons t rest =>
      refine (settledBy_checked_cons ..).trans ((if_neg (by simp)).trans ?_)
      refine settledBy_check (by simp [hclosed]) fun _ => ?_
      exact settledBy_taken ..

end Sys2Proof.Machine

namespace Sys2Proof.Machine

/-! ### The order of a notice queue (R155) -/

section
variable {r a b c : Notice} {q : List Notice}

/-- R155: a record that outranks another is not outranked by it. -/
theorem outranks_asymm (h : outranks a b = true) : outranks b a = false := by
  simp only [outranks, Bool.or_eq_true, Bool.and_eq_true, decide_eq_true_eq, beq_iff_eq] at h
  simp only [outranks, Bool.or_eq_false_iff, Bool.and_eq_false_imp, decide_eq_false_iff_not, beq_iff_eq]
  omega

/-- R155: what does not outrank a record does not outrank one that is outranked by it. -/
theorem not_outranks_of_outranks (hab : outranks a b = true) (hcb : outranks c b = false) : outranks c a = false := by
  simp only [outranks, Bool.or_eq_true, Bool.and_eq_true, decide_eq_true_eq, beq_iff_eq] at hab
  simp only [outranks, Bool.or_eq_false_iff, Bool.and_eq_false_imp, decide_eq_false_iff_not, beq_iff_eq] at hcb ⊢
  omega

theorem mem_insertNotice {y : Notice} : y ∈ insertNotice r q ↔ y = r ∨ y ∈ q := by
  induction q with
  | nil => simp only [insertNotice, List.mem_singleton, List.not_mem_nil, or_false]
  | cons x xs ih =>
    rw [insertNotice]
    split
    · exact List.mem_cons
    · rw [List.mem_cons, ih, List.mem_cons]
      exact or_left_comm

theorem insertNotice_length (r : Notice) (q : List Notice) : (insertNotice r q).length = q.length + 1 := by
  induction q with
  | nil => rfl
  | cons x xs ih =>
    rw [insertNotice]
    split
    · rfl
    · rw [List.length_cons, ih, List.length_cons]

/-- R155: none of a queue outranks one ahead of it. -/
abbrev RankOrdered (q : List Notice) : Prop := q.Pairwise fun a b => outranks b a = false

theorem insertNotice_rankOrdered (r : Notice) (h : RankOrdered q) : RankOrdered (insertNotice r q) := by
  induction q with
  | nil => exact List.pairwise_singleton _ r
  | cons x xs ih =>
    obtain ⟨hx, hxs⟩ := List.pairwise_cons.mp h
    rw [insertNotice]
    split
    next hr =>
      refine List.pairwise_cons.mpr ⟨List.forall_mem_cons.mpr ⟨outranks_asymm hr, fun y hy => ?_⟩, h⟩
      exact not_outranks_of_outranks hr (hx y hy)
    next hr =>
      refine List.pairwise_cons.mpr ⟨fun y hy => ?_, ih hxs⟩
      rcases mem_insertNotice.mp hy with rfl | hy
      · exact Bool.eq_false_iff.mpr hr
      · exact hx y hy

/-! ### A notice raised (R150, R154 to R156, R158) -/

variable {x : PortState} {s : State}

/-- R156: with no room, a record takes the place of the last one or is not queued. -/
theorem enqueueNotice_inOrder (r : Notice) (h : PortInOrder x) : PortInOrder (enqueueNotice r x) := by
  obtain ⟨hroom, hordered, hsummary⟩ := h
  unfold enqueueNotice
  split
  next hlt =>
    have hlength := Nat.le_of_eq (insertNotice_length r x.queue)
    exact ⟨Nat.le_trans hlength hlt, insertNotice_rankOrdered r hordered, hsummary⟩
  next =>
    split
    next l hl =>
      refine ⟨?_, ?_, hsummary⟩ <;> simp only <;> split
      · have hne := List.length_pos_of_mem (List.mem_of_getLast? hl)
        rw [insertNotice_length, List.length_dropLast]
        omega
      · exact hroom
      · exact insertNotice_rankOrdered r (hordered.sublist (List.dropLast_sublist _))
      · exact hordered
    next => exact ⟨hroom, hordered, hsummary⟩

theorem fileNotice_inOrder (p : Port) (r : Notice) (h : PortInOrder x) : PortInOrder (fileNotice p r x) := by
  obtain ⟨hroom, hordered, hsummary⟩ := h
  have hnoted : PortInOrder { x with summary := x.summary.set (r.kind.code - 1) true } :=
    ⟨hroom, hordered, List.length_set.trans hsummary⟩
  unfold fileNotice
  simp only
  split
  · exact enqueueNotice_inOrder r hnoted
  · exact hnoted

theorem raise_noticesInOrder (k : NoticeKind) (a b : Nat) (h : NoticesInOrder s) : NoticesInOrder (raise k a b s) := by
  obtain ⟨hfloor, hmud, hrecord⟩ := h
  exact ⟨fileNotice_inOrder _ _ hfloor, fileNotice_inOrder _ _ hmud, fileNotice_inOrder _ _ hrecord⟩

theorem raiseIf_noticesInOrder (c : Bool) (k : NoticeKind) (a b : Nat) (h : NoticesInOrder s) :
    NoticesInOrder (raiseIf c k a b s) := by
  unfold raiseIf
  split
  · exact raise_noticesInOrder k a b h
  · exact h

end

/-! ### What a port does with a notice, by the rule (R150, R154 to R156, R158) -/

theorem comesFirst_eq (x y : Notice) : comesFirst x y = outranks x y := rfl

theorem mandatory_eq (p : Port) (k : NoticeKind) : mandatory p k = decide (k.code ∈ mandatoryCodes p) := by
  cases p <;> cases k <;> rfl

/-- R155: a record placed after every record it does not precede. -/
theorem insertNotice_eq (r : Notice) (q : List Notice) :
    insertNotice r q = q.takeWhile (fun y => !comesFirst r y) ++ [r] ++ q.dropWhile (fun y => !comesFirst r y) := by
  induction q with
  | nil => rfl
  | cons x xs ih =>
    rw [insertNotice]
    split
    next hr => simp only [List.takeWhile_cons, List.dropWhile_cons, comesFirst_eq, hr, Bool.not_true, Bool.false_eq_true,
      if_false, List.nil_append, List.cons_append]
    next hr =>
      have hfirst : comesFirst r x = false := by rw [comesFirst_eq]; exact Bool.eq_false_iff.mpr hr
      simp only [List.takeWhile_cons, List.dropWhile_cons, hfirst, Bool.not_false, if_true, List.cons_append, ih]

/-- R155, R156: a record queued by rule; a queue with no room has a last record. -/
theorem enqueueNotice_eq (r : Notice) (x : PortState) :
    enqueueNotice r x =
      if x.queue.length < 16 then { x with queue := insertNotice r x.queue }
      else { x with
        queue := if (x.queue.getLast?.any (comesFirst r)) = true then insertNotice r x.queue.dropLast else x.queue,
        lost := min 65535 (x.lost + 1) } := by
  unfold enqueueNotice
  split
  next hroom => exact (if_pos hroom).symm
  next hfull =>
    have hne : x.queue ≠ [] := fun h => hfull (by simp [h, Config.maxNotices])
    refine Eq.trans ?_ (if_neg hfull).symm
    rw [List.getLast?_eq_some_getLast hne]
    rfl

/-- R154: a port queues a notice unless its kind is not mandatory and neither pair takes it. -/
theorem wanted_eq_false_iff (p : Port) (x : PortState) (k : NoticeKind) :
    wanted p x k = false ↔ k.code ∉ mandatoryCodes p ∧ x.filter1.takes k = false ∧ x.filter2.takes k = false := by
  simp only [wanted, mandatory_eq, Bool.or_eq_false_iff, decide_eq_false_iff_not, and_assoc]

theorem fileNotice_eq (p : Port) (r : Notice) (x : PortState) : fileNotice p r x = filedTo p r x := by
  unfold fileNotice filedTo
  simp only [enqueueNotice_eq, insertNotice_eq]
  have hfiled := wanted_eq_false_iff p { x with summary := x.summary.set (r.kind.code - 1) true } r.kind
  split
  next hwanted => exact (if_neg fun h => Bool.eq_false_iff.mp (hfiled.mpr h) hwanted).symm
  next hwanted => exact (if_pos (hfiled.mp (Bool.eq_false_iff.mpr hwanted))).symm

/-- Settles O51: the three ports file the record by `fileNotice_eq`, and a raise writes nothing but the ports. -/
theorem noticesFiledByRule : Obligations.NoticesFiledByRule := by
  intro k a b s r
  simp only [← fileNotice_eq]
  rfl

end Sys2Proof.Machine

namespace Sys2Proof.Machine

/-! ### The requests on levels, filters, queues and summaries, and PORT RESET (R152, R153, R157, R159, R189) -/

/-- R192: the record that READ NOTICE sends, byte by byte. -/
theorem optional_noticeBytes (q : List Notice) :
    optional 12 noticeBytes q.head? = match q with
      | [] => List.replicate 13 0
      | r :: _ => num1 1 ++ num1 r.kind.code ++ num1 r.level ++ num2 r.argA ++ num4 r.argB ++ num4 r.jobClock := by
  cases q with
  | nil => rfl
  | cons r rest => simp only [List.head?_cons, optional, noticeBytes, List.append_assoc]

/-- Settles O52: the checks one by one, and then what each request does to the levels or to its port, by definition. -/
theorem noticeAndPortRequests : Obligations.NoticeAndPortRequests := by
  refine ⟨fun p levels s h => request_eq h ?levels, fun p pair enable mask pattern s h => request_eq h ?filter,
    fun p s h => request_eq h ?notice, fun p s h => request_eq h ?summary, fun p s h => request_eq h ?reset⟩
  case levels =>
    refine settledBy_check (onlyFrom_record p) fun _ => ?_
    refine settledBy_check (onlyInSetup_iff s) fun _ => ?_
    refine settledBy_check (by simp only [List.any_eq_true, decide_eq_true_eq]) fun _ => ?_
    exact settledBy_taken ..
  case filter =>
    refine settledBy_check ?refused fun htaken => ?_
    case refused =>
      simp only [Bool.or_eq_true, inRange_isNone, switchOf_isNone, decide_eq_true_eq]
      omega
    have henable : enable ≤ 1 := by omega
    rw [settledBy_checked_nil, settledBy_taken, switchOf_of_le_one henable]
    rfl
  case notice =>
    rw [settledBy_answered, optional_noticeBytes, List.length_tail]
    rfl
  case summary => exact settledBy_answered ..
  case reset => exact settledBy_taken ..

end Sys2Proof.Machine

namespace Sys2Proof.Machine

/-! ### The ports written one at a time, and the notices filed by the shared operations (R155, R158) -/

section
variable {s t : State}

/-- `NoticesInOrder` looks at the ports alone. -/
theorem noticesInOrder_congr (h : t.ports = s.ports) (hs : NoticesInOrder s) : NoticesInOrder t := by
  rwa [NoticesInOrder, h]

theorem get_inOrder (p : Port) (hs : NoticesInOrder s) : PortInOrder (s.ports.get p) := by
  obtain ⟨hfloor, hmud, hrecord⟩ := hs
  cases p <;> assumption

/-- One port replaced by one that is in order. -/
theorem setPort_noticesInOrder (p : Port) {x : PortState} (hx : PortInOrder x) (hs : NoticesInOrder s) :
    NoticesInOrder (s.setPorts (s.ports.set p x)) := by
  obtain ⟨hfloor, hmud, hrecord⟩ := hs
  cases p with
  | floor => exact ⟨hx, hmud, hrecord⟩
  | mud => exact ⟨hfloor, hx, hrecord⟩
  | record => exact ⟨hfloor, hmud, hx⟩

theorem modifyPort_noticesInOrder (p : Port) {f : PortState → PortState} (hf : ∀ x, PortInOrder x → PortInOrder (f x))
    (hs : NoticesInOrder s) : NoticesInOrder (modifyPort p f s) :=
  setPort_noticesInOrder p (hf _ (get_inOrder p hs)) hs

theorem placeReply_noticesInOrder (p : Port) (code : Nat) (c : ReplyCode) (bs : List Byte) (hs : NoticesInOrder s) :
    NoticesInOrder (placeReply p code c bs s) := setPort_noticesInOrder p (get_inOrder p hs) hs

theorem shiftZeros_noticesInOrder (p : Port) (hs : NoticesInOrder s) : NoticesInOrder (shiftZeros p s) :=
  setPort_noticesInOrder p (get_inOrder p hs) hs

/-! #### Requests that change one port (R153, R157, R159, R180, R189) -/

/-- R157: the first record leaves the queue. -/
theorem tail_inOrder {x : PortState} (h : PortInOrder x) : PortInOrder { x with queue := x.queue.tail } := by
  obtain ⟨hroom, hordered, hsummary⟩ := h
  exact ⟨Nat.le_trans (List.tail_sublist _).length_le hroom, hordered.sublist (List.tail_sublist _), hsummary⟩

/-- R159: the summary is emptied, not shortened. -/
theorem emptySummary_inOrder {x : PortState} (h : PortInOrder x) :
    PortInOrder { x with summary := List.replicate 25 false } := by
  obtain ⟨hroom, hordered, -⟩ := h
  exact ⟨hroom, hordered, List.length_replicate⟩

theorem setFilter_inOrder (pair : Nat) (f : Filter) {x : PortState} (h : PortInOrder x) :
    PortInOrder (setFilter pair f x) := by
  unfold setFilter
  split <;> exact h

theorem readTransactionOn_inOrder (clocked : Nat) {x : PortState} (h : PortInOrder x) :
    PortInOrder (readTransactionOn clocked x) := by
  unfold readTransactionOn
  split <;> exact h

/-! ### Wear, tickets and the strata log (R9, R114, R115, R124, R142) -/

theorem wearCheck_noticesInOrder (serial : Nat) (hs : NoticesInOrder s) : NoticesInOrder (wearCheck serial s) := by
  unfold wearCheck
  split
  · split
    · exact raise_noticesInOrder _ _ _ hs
    · exact hs
  · exact hs

theorem wearChecks_noticesInOrder (serials : List Nat) (hs : NoticesInOrder s) :
    NoticesInOrder (wearChecks serials s) :=
  List.foldlRecOn serials _ hs fun _ ht serial _ => wearCheck_noticesInOrder serial ht

theorem closeOpenTicket_noticesInOrder (reference : Nat) (reopen : Bool) (hs : NoticesInOrder s) :
    NoticesInOrder (closeOpenTicket reference reopen s) := by
  unfold closeOpenTicket
  split
  next ticket _ =>
    have hfiled : ∀ m hole, NoticesInOrder (raise .ticketClosed ticket.number hole (s.setMeter m)) :=
      fun _ _ => raise_noticesInOrder _ _ _ hs
    simp only
    split <;> exact hfiled _ _
  next => exact hs

theorem judgeSegment_noticesInOrder (top e seconds rate : Nat) (hs : NoticesInOrder s) :
    NoticesInOrder (judgeSegment top e seconds rate s) := by
  unfold judgeSegment
  simp only
  split
  · exact hs
  · split
    · split
      · split
        · exact raise_noticesInOrder .drillBreak _ _ hs
        · exact raise_noticesInOrder .logFull _ _ hs
      · exact hs
    · exact hs

theorem completeSegment_noticesInOrder (e : Nat) (hs : NoticesInOrder s) : NoticesInOrder (completeSegment e s) := by
  unfold completeSegment
  simp only
  split
  · exact judgeSegment_noticesInOrder _ _ _ _ (s := s.setLog _) hs
  · exact hs

theorem logIncrement_noticesInOrder (a b : Nat) (ends : List Nat) (hs : NoticesInOrder s) :
    NoticesInOrder (logIncrement a b ends s) := by
  induction ends generalizing a s with
  | nil => exact hs
  | cons e ends ih => exact ih e (completeSegment_noticesInOrder e (s := addDrilled _ s) hs)

theorem proposeStrike_noticesInOrder (z : Nat) (hs : NoticesInOrder s) : NoticesInOrder (proposeStrike z s) := by
  unfold proposeStrike
  simp only
  split
  · exact raise_noticesInOrder _ _ _ hs
  · exact hs

/-! ### The lag unit (R90, R92, R97, R98) -/

theorem issueSample_noticesInOrder (annular : Option Nat) (mark : Nat) (hs : NoticesInOrder s) :
    NoticesInOrder (issueSample annular s mark) := by
  unfold issueSample
  simp only
  split
  · exact raise_noticesInOrder _ _ _ hs
  · exact hs

theorem noteBelowProgram_noticesInOrder (z : Nat) (hs : NoticesInOrder s) : NoticesInOrder (noteBelowProgram z s) := by
  unfold noteBelowProgram
  split
  · exact raise_noticesInOrder _ _ _ hs
  · exact hs

theorem issueSamples_noticesInOrder (a b : Nat) (hs : NoticesInOrder s) : NoticesInOrder (issueSamples a b s) := by
  unfold issueSamples
  split
  · exact hs
  · exact List.foldlRecOn _ _ (noteBelowProgram_noticesInOrder _ hs) fun _ ht mark _ =>
      issueSample_noticesInOrder _ mark ht

theorem arrive_noticesInOrder (e : LagEntry) (status : SampleStatus) (caught : Bool) (hs : NoticesInOrder s) :
    NoticesInOrder (arrive e status caught s) := raise_noticesInOrder _ _ _ hs

theorem releaseHead_noticesInOrder (hs : NoticesInOrder s) : NoticesInOrder (releaseHead s) := by
  unfold releaseHead
  split
  · exact arrive_noticesInOrder _ _ _ hs
  · exact hs

theorem releaseUpTo_noticesInOrder (fuel : Nat) (hs : NoticesInOrder s) : NoticesInOrder (releaseUpTo fuel s) := by
  induction fuel generalizing s with
  | zero => exact hs
  | succ fuel ih =>
    unfold releaseUpTo
    split
    · exact ih (releaseHead_noticesInOrder hs)
    · exact hs

theorem releaseArrivals_noticesInOrder (hs : NoticesInOrder s) : NoticesInOrder (releaseArrivals s) :=
  releaseUpTo_noticesInOrder _ hs

theorem sampleCaughtTaken_noticesInOrder (number : Nat) (hs : NoticesInOrder s) :
    NoticesInOrder (sampleCaughtTaken number s).state := by
  unfold sampleCaughtTaken
  split
  · exact releaseArrivals_noticesInOrder (arrive_noticesInOrder _ _ _ hs)
  · split
    · exact hs
    · split <;> exact hs

/-! ### Changes of mode, wake events and answers (R82, R165, R173, R175, R178) -/

theorem enterSetupSteps_noticesInOrder (hs : NoticesInOrder s) : NoticesInOrder (enterSetupSteps s) := by
  have habandoned : NoticesInOrder (abandonQueue s) := noticesInOrder_congr (by simp only [abandonQueue_frame]) hs
  exact raiseIf_noticesInOrder _ _ _ _ (raiseIf_noticesInOrder _ _ _ _ (s := (abandonQueue s).setCirc _) habandoned)

theorem setMode_noticesInOrder (m : Mode) (hs : NoticesInOrder s) : NoticesInOrder (setMode m s) := by
  unfold setMode
  simp only
  split
  · exact hs
  · refine raise_noticesInOrder _ _ _ ?_
    split
    · exact enterSetupSteps_noticesInOrder hs
    · exact hs

theorem takeMode_noticesInOrder (m : Mode) (hs : NoticesInOrder s) : NoticesInOrder (takeMode m s) :=
  setMode_noticesInOrder m hs

theorem recheck_noticesInOrder (hs : NoticesInOrder s) : NoticesInOrder (recheck s) := by
  unfold recheck
  split
  · split
    · exact takeMode_noticesInOrder _ hs
    · exact hs
  · exact hs

theorem goPending_noticesInOrder (target : Mode) (p : Port) (failing : Nat) (hs : NoticesInOrder s) :
    NoticesInOrder (goPending target p failing s).state := raise_noticesInOrder _ _ _ hs

theorem wakeEvent_noticesInOrder (w : WakeSource) (hs : NoticesInOrder s) : NoticesInOrder (wakeEvent w s) := by
  unfold wakeEvent
  simp only
  split
  · split
    · exact recheck_noticesInOrder (setMode_noticesInOrder _ (raiseIf_noticesInOrder _ _ _ _ hs))
    · exact raiseIf_noticesInOrder _ _ _ _ hs
  · exact hs

theorem keptByAnswer_noticesInOrder : KeptByAnswer NoticesInOrder where
  reply p code c bs _ := placeReply_noticesInOrder p code c bs
  wakes ws _ hs := List.foldlRecOn ws _ hs fun _ ht w _ => wakeEvent_noticesInOrder w ht
  zeros p _ := shiftZeros_noticesInOrder p

/-! ### The depth computation (R53 to R56) -/

theorem handIncrement_noticesInOrder (a b : Nat) (hs : NoticesInOrder s) : NoticesInOrder (handIncrement a b s) :=
  noticesInOrder_congr (s := logIncrement a b (segmentEnds (startDepth (issueSamples a b s)) a b) (issueSamples a b s))
    (by simp only [handIncrement, accrueFootage_frame]) (logIncrement_noticesInOrder _ _ _ (issueSamples_noticesInOrder a b hs))

theorem advanceHole_noticesInOrder (raw hole : Nat) (hs : NoticesInOrder s) :
    NoticesInOrder (advanceHole raw hole s) := by
  have hhanded : ∀ d, NoticesInOrder (if hole < advancedHole raw hole then
      handIncrement hole (advancedHole raw hole) (s.setDepth d) else s.setDepth d) := by
    intro d
    split
    · exact handIncrement_noticesInOrder _ _ hs
    · exact hs
  unfold advanceHole
  simp only
  split
  · exact raise_noticesInOrder _ _ _ (hhanded _)
  · exact hhanded _

theorem holeStep_noticesInOrder (raw : Nat) (hs : NoticesInOrder s) : NoticesInOrder (holeStep raw s) := by
  unfold holeStep
  split
  · split
    · exact hs
    · split
      · exact advanceHole_noticesInOrder _ _ hs
      · exact raiseIf_noticesInOrder _ _ _ _ hs
  · exact hs

theorem depthCompute_noticesInOrder (hs : NoticesInOrder s) : NoticesInOrder (depthCompute s) := by
  unfold depthCompute
  split
  · exact hs
  · simp only
    split
    · exact hs
    · exact holeStep_noticesInOrder _ hs

/-! ### The moves (R8, R24 to R36, R42) -/

theorem refuseMove_noticesInOrder (code : Nat) (c : ReplyCode) (hs : NoticesInOrder s) :
    NoticesInOrder (refuseMove code c s).state := by
  unfold refuseMove
  split
  · exact raise_noticesInOrder _ _ _ hs
  · exact raise_noticesInOrder _ _ _ hs
  · exact hs

theorem countJoint_noticesInOrder (serials : List Nat) (hs : NoticesInOrder s) : NoticesInOrder (countJoint serials s) :=
  wearChecks_noticesInOrder serials hs

theorem noteWornPick_noticesInOrder (serial : Nat) (hs : NoticesInOrder s) : NoticesInOrder (noteWornPick serial s) := by
  unfold noteWornPick
  split
  · exact raiseIf_noticesInOrder _ _ _ _ hs
  · exact hs

/-- R24, R47: the moves that end in a depth computation. -/
theorem recheck_depthCompute_noticesInOrder (hs : NoticesInOrder s) : NoticesInOrder (recheck (depthCompute s)) :=
  recheck_noticesInOrder (depthCompute_noticesInOrder hs)

/-- R24: the moves that leave the depths alone. -/
theorem recheck_moveTo_noticesInOrder (x : Tally) (hs : NoticesInOrder s) : NoticesInOrder (recheck (moveTo x s)) :=
  recheck_noticesInOrder hs

theorem makeJointTaken_noticesInOrder (hs : NoticesInOrder s) : NoticesInOrder (makeJointTaken s) :=
  recheck_noticesInOrder (countJoint_noticesInOrder _ (depthCompute_noticesInOrder hs))

theorem pickRodTaken_noticesInOrder (slot : Nat) (hs : NoticesInOrder s) : NoticesInOrder (pickRodTaken slot s) :=
  recheck_noticesInOrder (noteWornPick_noticesInOrder _ hs)

theorem resolveTaken_noticesInOrder (destination slot : Nat) (hs : NoticesInOrder s) :
    NoticesInOrder (resolveTaken destination slot s) := by
  unfold resolveTaken
  split
  · exact recheck_depthCompute_noticesInOrder hs
  · exact recheck_moveTo_noticesInOrder _ hs
  · exact recheck_moveTo_noticesInOrder _ hs

/-! ### A circulation report (R66, R69, R70, R73, R77, R79, R80) -/

theorem channelNotice_noticesInOrder (n : Nat) (before after : Channel) (hs : NoticesInOrder s) :
    NoticesInOrder (channelNotice n before after s) := by
  unfold channelNotice
  split
  · exact hs
  · exact raise_noticesInOrder _ _ _ hs
  · exact raise_noticesInOrder _ _ _ hs
  · exact raise_noticesInOrder _ _ _ hs
  · exact hs

theorem judgeChannel_noticesInOrder (n : Nat) (plausible : Bool) (value : Nat) (hs : NoticesInOrder s) :
    NoticesInOrder (judgeChannel n plausible value s) := channelNotice_noticesInOrder _ _ _ hs

theorem judgeChannels_noticesInOrder (p1 p2 flowOut pit e : Nat) (hs : NoticesInOrder s) :
    NoticesInOrder (judgeChannels p1 p2 flowOut pit e s) := by
  unfold judgeChannels
  have h1 := judgeChannel_noticesInOrder 1 (strokesPlausible s.circ.pump1 p1 e) (p1 * 1000 / e) hs
  exact judgeChannel_noticesInOrder 4 _ _ (judgeChannel_noticesInOrder 3 _ _ (judgeChannel_noticesInOrder 2 _ _ h1))

theorem setStatus_noticesInOrder (x : CircStatus) (hs : NoticesInOrder s) : NoticesInOrder (setStatus x s) := by
  unfold setStatus
  split
  · exact hs
  · exact recheck_noticesInOrder hs

theorem clearLoss_noticesInOrder (hs : NoticesInOrder s) : NoticesInOrder (clearLoss s) := by
  unfold clearLoss
  split
  · exact raise_noticesInOrder _ _ _ hs
  · exact hs

theorem clearGain_noticesInOrder (hs : NoticesInOrder s) : NoticesInOrder (clearGain s) := by
  unfold clearGain
  split
  · exact raise_noticesInOrder _ _ _ hs
  · exact hs

theorem updateAlarms_noticesInOrder (hs : NoticesInOrder s) : NoticesInOrder (updateAlarms s) := by
  unfold updateAlarms
  split
  · exact raise_noticesInOrder _ _ _ (clearGain_noticesInOrder hs)
  · split
    · exact raise_noticesInOrder _ _ _ (clearLoss_noticesInOrder hs)
    · split
      · exact clearGain_noticesInOrder (clearLoss_noticesInOrder hs)
      · exact hs

theorem tellStrata_noticesInOrder (d : Option Int) (e : Nat) (gainSet : Bool) (hs : NoticesInOrder s) :
    NoticesInOrder (tellStrata d e gainSet s) := by
  have hproposed : ∀ {u : State} (c : Bool), NoticesInOrder u →
      NoticesInOrder (if c then proposeStrike (bitDepthGiven u) u else u) := by
    intro u c hu
    cases c
    · exact hu
    · exact proposeStrike_noticesInOrder _ hu
  unfold tellStrata
  simp only
  split
  · exact hproposed _ (noticesInOrder_congr rfl hs)
  · exact hproposed _ hs

theorem lagHandOff_noticesInOrder (flowOut : Nat) (hs : NoticesInOrder s) : NoticesInOrder (lagHandOff flowOut s) :=
  releaseArrivals_noticesInOrder (s := s.setLag _) hs

/-- R66: every stage of a report may raise notices. -/
theorem reportTaken_noticesInOrder (p1 p2 flowOut pit : Nat) (hs : NoticesInOrder s) :
    NoticesInOrder (reportTaken p1 p2 flowOut pit s).state := by
  simp only [reportTaken_eq, taken_state]
  unfold reportStages
  extract_lets e _ judged counted used d balanced told
  have hjudged : NoticesInOrder judged := by
    simp only [judged, stageChannels_eq]
    exact judgeChannels_noticesInOrder _ _ _ _ _ hs
  have hcounted : NoticesInOrder counted := by
    simp only [counted, stageVolume_eq, stageStatus_eq]
    exact setStatus_noticesInOrder _ hjudged
  have hbalanced : NoticesInOrder balanced := updateAlarms_noticesInOrder hcounted
  exact lagHandOff_noticesInOrder _ (tellStrata_noticesInOrder _ _ _ hbalanced)

/-! ### The device second and the events it makes (R7, R37, R40, R74) -/

theorem expireStab_noticesInOrder (hs : NoticesInOrder s) : NoticesInOrder (expireStab s) := by
  unfold expireStab
  split
  · exact recheck_noticesInOrder (raise_noticesInOrder _ _ _ hs)
  · exact hs

theorem makeStale_noticesInOrder (hs : NoticesInOrder s) : NoticesInOrder (makeStale s) := by
  unfold makeStale
  split
  · exact recheck_noticesInOrder (raise_noticesInOrder _ _ _ hs)
  · exact hs

theorem permitReadback_noticesInOrder (pins : SensePins) (hs : NoticesInOrder s) :
    NoticesInOrder (permitReadback pins s) := by
  unfold permitReadback
  simp only
  split
  · exact recheck_noticesInOrder (raiseIf_noticesInOrder _ _ _ _ (raiseIf_noticesInOrder _ _ _ _ hs))
  · exact raiseIf_noticesInOrder _ _ _ _ (raiseIf_noticesInOrder _ _ _ _ hs)

theorem secondComparison_noticesInOrder (q : Permit) (sense : Bool) (hs : NoticesInOrder s) :
    NoticesInOrder (secondComparison q sense s) := by
  unfold secondComparison
  simp only
  split
  · exact recheck_noticesInOrder (raise_noticesInOrder _ _ _ hs)
  · exact hs

theorem wearSecond_noticesInOrder (hs : NoticesInOrder s) : NoticesInOrder (wearSecond s) := by
  unfold wearSecond
  split
  · exact wearChecks_noticesInOrder _ hs
  · exact hs

/-- After the permit readback, nothing in the work of a second raises a notice. -/
theorem secondPasses_noticesInOrder (pins : SensePins) (hs : NoticesInOrder s) : NoticesInOrder (secondPasses pins s) := by
  have hoverdue : NoticesInOrder (overdueExpiries s) := makeStale_noticesInOrder (expireStab_noticesInOrder hs)
  have hworn : NoticesInOrder (wearSecond (advanceSeconds (overdueExpiries s))) := wearSecond_noticesInOrder hoverdue
  exact noticesInOrder_congr (by simp only [secondPasses, clockSecond_frame, logSecond_frame, deriveActivity_frame])
    (permitReadback_noticesInOrder pins hworn)

theorem rackSenseTaken_noticesInOrder (bay : Nat) (values : List Sensed) (hs : NoticesInOrder s) :
    NoticesInOrder (rackSenseTaken bay values s) :=
  List.foldlRecOn (motive := NoticesInOrder) (newDiscrepancies s.rack (overBay senseSlot bay values s.rack) bay) _ hs
    fun _ ht _ _ => raise_noticesInOrder _ _ _ ht

/-! ### Power (R41, R191, R196, R197) -/

/-- R191: the power-on sequence starts from fresh ports. -/
theorem freshPorts_noticesInOrder (h : s.ports = freshPorts) : NoticesInOrder s := by
  rw [NoticesInOrder, h]
  exact ⟨freshPort_inOrder, freshPort_inOrder, freshPort_inOrder⟩

theorem chooseMode_noticesInOrder (hs : NoticesInOrder s) : NoticesInOrder (chooseMode s) := by
  unfold chooseMode
  simp only
  split
  · exact hs
  · exact raise_noticesInOrder _ _ _ hs

theorem checkTally_noticesInOrder (hs : NoticesInOrder s) : NoticesInOrder (checkTally s) := by
  unfold checkTally
  split
  · exact raise_noticesInOrder _ _ _ hs
  · exact hs

theorem powerUp_noticesInOrder (valid : Bool) (s : State) : NoticesInOrder (powerUp valid s) := by
  have hfresh : NoticesInOrder (readStore valid (volatileReset s)) :=
    freshPorts_noticesInOrder (by cases valid <;> rfl)
  have hcounted : NoticesInOrder (countPowerEvent (chooseMode (readStore valid (volatileReset s)))) :=
    noticesInOrder_congr (by rw [countPowerEvent_eq]) (chooseMode_noticesInOrder hfresh)
  exact checkTally_noticesInOrder hcounted

end

end Sys2Proof.Machine

namespace Sys2Proof.Machine

/-! ### Every command keeps the notice queues in order (R155, R156, R158) -/

section
variable {s t : State} {p : Port} {code : Nat} {checks : State → List (Bool × ReplyCode)}

/-- A checked request whose effect touches no port. -/
theorem request_ports {r : State → Response} (h : request p code (fun s => checked (checks s) s (r s)) s = .next t)
    (hs : NoticesInOrder s) (hr : (r s).state.ports = s.ports) : NoticesInOrder t :=
  request_checked_keeps keptByAnswer_noticesInOrder h hs fun _ => noticesInOrder_congr hr hs

/-- A checked request whose effect keeps the queues in order. -/
theorem request_noticesInOrder {r : State → Response}
    (h : request p code (fun s => checked (checks s) s (r s)) s = .next t) (hs : NoticesInOrder s)
    (hr : NoticesInOrder (r s).state) : NoticesInOrder t :=
  request_checked_keeps keptByAnswer_noticesInOrder h hs fun _ => hr

/-- A move whose effect keeps the queues in order: its refusals raise a notice at most. -/
theorem moveRequest_noticesInOrder {effect : State → State} (h : moveRequest p code checks effect s = .next t)
    (hs : NoticesInOrder s) (he : NoticesInOrder (effect s)) : NoticesInOrder t :=
  moveRequest_keeps keptByAnswer_noticesInOrder h hs (fun c => refuseMove_noticesInOrder code c hs) fun _ => he

theorem execReleaseSlips_noticesInOrder {pins : SensePins} (hs : NoticesInOrder s)
    (h : execReleaseSlips p pins s = .next t) : NoticesInOrder t := by
  have hsensed : NoticesInOrder (sensePermits pins s) := hs
  refine writeTransaction_keeps keptByAnswer_noticesInOrder h hs (respond_keeps keptByAnswer_noticesInOrder ?_)
  exact judgedMove_keeps (fun c => refuseMove_noticesInOrder _ c hsensed) fun _ =>
    recheck_depthCompute_noticesInOrder hsensed

theorem execReadTally_noticesInOrder {pins : SensePins} (hs : NoticesInOrder s)
    (h : execReadTally p pins s = .next t) : NoticesInOrder t :=
  writeTransaction_keeps keptByAnswer_noticesInOrder h hs (respond_keeps keptByAnswer_noticesInOrder hs)

theorem execBadFrame_noticesInOrder (hs : NoticesInOrder s) (h : execBadFrame p code s = .next t) : NoticesInOrder t :=
  writeTransaction_keeps keptByAnswer_noticesInOrder h hs
    (placeReply_noticesInOrder _ _ _ _ (modifyPort_noticesInOrder p (fun _ hx => hx) hs))

theorem execUnknownRequest_noticesInOrder (hs : NoticesInOrder s) (h : execUnknownRequest p code s = .next t) :
    NoticesInOrder t :=
  writeTransaction_keeps keptByAnswer_noticesInOrder h hs (placeReply_noticesInOrder _ _ _ _ hs)

theorem execEnterSetup_noticesInOrder (hs : NoticesInOrder s) (h : execEnterSetup p s = .next t) :
    NoticesInOrder t := by
  refine request_noticesInOrder h hs ?_
  split
  · exact takeMode_noticesInOrder _ hs
  · exact goPending_noticesInOrder _ _ _ hs

theorem execEnterRun_noticesInOrder (hs : NoticesInOrder s) (h : execEnterRun p s = .next t) : NoticesInOrder t := by
  refine request_noticesInOrder h hs ?_
  split
  · exact hs
  · exact takeMode_noticesInOrder _ hs

theorem execEnterStandby_noticesInOrder (hs : NoticesInOrder s) (h : execEnterStandby p s = .next t) :
    NoticesInOrder t := by
  refine request_keeps keptByAnswer_noticesInOrder h hs ?_
  split
  · exact hs
  · split
    · exact takeMode_noticesInOrder _ hs
    · exact goPending_noticesInOrder _ _ _ hs

theorem execReadTransaction_noticesInOrder {clocked : Nat} (hs : NoticesInOrder s)
    (h : execReadTransaction p clocked s = .next t) : NoticesInOrder t := by
  unfold execReadTransaction at h
  split at h <;> cases h
  · exact hs
  · exact hs
  · exact hs
  · exact modifyPort_noticesInOrder p (fun _ => readTransactionOn_inOrder _) hs
  · exact modifyPort_noticesInOrder p (fun _ hx => hx) hs

theorem execPowerOn_noticesInOrder {valid : Bool} (h : execPowerOn valid s = .next t) : NoticesInOrder t := by
  unfold execPowerOn at h
  split at h <;> cases h
  · exact powerUp_noticesInOrder valid s
  · exact powerUp_noticesInOrder valid s
  · exact freshPorts_noticesInOrder rfl
  · exact freshPorts_noticesInOrder rfl

theorem execResetAsserted_noticesInOrder (hs : NoticesInOrder s) (h : execResetAsserted s = .next t) :
    NoticesInOrder t := by
  unfold execResetAsserted at h
  split at h <;> cases h <;> exact hs

theorem execResetReleased_noticesInOrder {valid : Bool} (hs : NoticesInOrder s)
    (h : execResetReleased valid s = .next t) : NoticesInOrder t := by
  unfold execResetReleased at h
  split at h <;> cases h
  · exact powerUp_noticesInOrder valid s
  · exact hs
  · exact hs
  · exact hs

theorem exec_noticesInOrder (c : Instr) (hs : NoticesInOrder s) (h : exec c s = .next t) : NoticesInOrder t := by
  cases c with
  | readNotice =>
    exact request_keeps keptByAnswer_noticesInOrder h hs (modifyPort_noticesInOrder _ (fun _ => tail_inOrder) hs)
  | readSummary =>
    exact request_keeps keptByAnswer_noticesInOrder h hs (modifyPort_noticesInOrder _ (fun _ => emptySummary_inOrder) hs)
  | portReset =>
    exact request_keeps keptByAnswer_noticesInOrder h hs
      (modifyPort_noticesInOrder _ (fun _ _ => freshPort_inOrder) hs)
  | setNoticeFilter =>
    exact request_noticesInOrder h hs (modifyPort_noticesInOrder _ (fun _ => setFilter_inOrder _ _) hs)
  | readTransaction => exact execReadTransaction_noticesInOrder hs h
  | badFrame => exact execBadFrame_noticesInOrder hs h
  | unknownRequest => exact execUnknownRequest_noticesInOrder hs h
  | rackSense => exact request_noticesInOrder h hs (rackSenseTaken_noticesInOrder _ _ hs)
  | setBha | block | openJob => exact request_noticesInOrder h hs (depthCompute_noticesInOrder hs)
  | closeTicket | closeJob => exact request_noticesInOrder h hs (closeOpenTicket_noticesInOrder _ _ hs)
  | circulation => exact request_noticesInOrder h hs (reportTaken_noticesInOrder _ _ _ _ hs)
  | sampleCaught => exact request_noticesInOrder h hs (sampleCaughtTaken_noticesInOrder _ hs)
  | releaseSlips => exact execReleaseSlips_noticesInOrder hs h
  | setSlips | breakJoint => exact moveRequest_noticesInOrder h hs (recheck_depthCompute_noticesInOrder hs)
  | makeJoint => exact moveRequest_noticesInOrder h hs (makeJointTaken_noticesInOrder hs)
  | pickRod => exact moveRequest_noticesInOrder h hs (pickRodTaken_noticesInOrder _ hs)
  | resolveRod => exact moveRequest_noticesInOrder h hs (resolveTaken_noticesInOrder _ _ hs)
  | unlatch | latch | stab | rackRod | layOutRod =>
    exact moveRequest_noticesInOrder h hs (recheck_moveTo_noticesInOrder _ hs)
  | enterSetup => exact execEnterSetup_noticesInOrder hs h
  | enterRun => exact execEnterRun_noticesInOrder hs h
  | enterWatch => exact request_noticesInOrder h hs (takeMode_noticesInOrder _ hs)
  | enterStandby => exact execEnterStandby_noticesInOrder hs h
  | deviceSecond => exact whileRunning_keeps h hs (secondPasses_noticesInOrder _ hs)
  | makeupExpired => exact whileRunning_keeps h hs (expireStab_noticesInOrder hs)
  | circStale => exact whileRunning_keeps h hs (makeStale_noticesInOrder hs)
  | permitFault => exact whileRunning_keeps h hs (secondComparison_noticesInOrder _ _ hs)
  | pendingModeTaken => exact whileRunning_keeps h hs (recheck_noticesInOrder hs)
  | sampleArrival => exact whileRunning_keeps h hs (releaseHead_noticesInOrder hs)
  | powerOn => exact execPowerOn_noticesInOrder h
  | resetAsserted => exact execResetAsserted_noticesInOrder hs h
  | resetReleased => exact execResetReleased_noticesInOrder hs h
  | powerLoss => cases h; exact freshPorts_noticesInOrder rfl
  | readTally => exact execReadTally_noticesInOrder hs h
  | readRod | readRodList | readSlot | readLaidOutList | readWearLimits | readStack | readBha | readMakeupLimits
  | readDepth | readCirculation | readChannel | readPumps | readCasingProgram | readAnnulus | readLagQueue | readLog
  | readInterval | readIntervalAtDepth | readSamples | readTicket | readRateCard | readJobTotals | readNoticeStatus
  | readNoticeLevels | readMode | readPortStatus | readJob => exact readRequest_keeps keptByAnswer_noticesInOrder h hs
  | registerRod | deleteRod | restoreRod | setWearLimits | setSlotSensing | setMakeupLimits | downStart | downEnd
  | setPump | setCirculationLimits | additive | setCasingProgram | setDrillBreak | reArm | classify | confirm | merge
  | split | waterStrike | clearWaterStrike | setBandRates | setTierMultipliers | setHourlyRates | setAdditivePrices
  | acknowledgeTicket | setNoticeLevels | cancelMode | setWakeTable =>
    exact request_ports h hs (by simp [registerRodTaken, restoreRodTaken])

end

/-- Settles O12: a record placed by rank leaves a queue in order (`insertNotice_rankOrdered`) and within its size
(`enqueueNotice_inOrder`); reads and PORT RESET only shorten one, power-on empties it, and all else raises notices at most. -/
theorem stepKeepsNoticesInOrder : Obligations.StepKeepsNoticesInOrder := fun s t hs h =>
  step_keeps NoticesInOrder (fun _ _ h => h) (fun c _ _ hs h => exec_noticesInOrder c hs h) s t hs h

end Sys2Proof.Machine

namespace Sys2Proof.Machine

/-! ### What `PendingWaits` looks at (R166, R167, R172) -/

/-- The fields of a state that `PendingWaits` looks at. -/
structure PendingView where
  mode : Mode
  request : Option PendingMode
  handling : Option Nat
  stab : Option Nat
  state : TallyState
  slipsFault : Bool
  pumpFault : Bool
  status : CircStatus

def pendingView (s : State) : PendingView :=
  ⟨s.modes.mode, s.modes.request, s.tally.handling, s.tally.stab, s.tally.state, s.tally.slips.fault, s.tally.pump.fault,
    s.circ.status⟩

/-- R167: the part of `PendingWaits` that does not look at the rig: a pending mode request aims at SETUP or STANDBY, and not at the
mode held. -/
def PendingAimed (m : Modes) : Prop := ∀ r ∈ m.request, (r.target = .setup ∨ r.target = .standby) ∧ r.target ≠ m.mode

section
variable {s t : State}

theorem pendingWaits_congr (h : pendingView t = pendingView s) (hs : PendingWaits s) : PendingWaits t := by
  simp only [pendingView, PendingView.mk.injEq] at h
  obtain ⟨hmode, hrequest, hhandling, hstab, hstate, hslips, hpump, hstatus⟩ := h
  simpa only [PendingWaits, pendingHolds, standbyFailing, quietFailing, hmode, hrequest, hhandling, hstab, hstate, hslips,
    hpump, hstatus] using hs

theorem pendingWaits_of_empty (h : s.modes.request = none) : PendingWaits s := by simp [PendingWaits, h]

theorem pendingAimed_of_waits (hs : PendingWaits s) : PendingAimed s.modes := fun r hr =>
  have ⟨htarget, hother, _⟩ := hs r hr
  ⟨htarget, hother⟩

/-! ### Changes of mode and the re-check (R165, R167, R173) -/

theorem setMode_modes (m : Mode) (s : State) : (setMode m s).modes = { s.modes with mode := m } := by
  unfold setMode
  simp only
  split
  next h => rw [h]
  next => split <;> simp

theorem takeMode_pendingWaits (m : Mode) (s : State) : PendingWaits (takeMode m s) :=
  pendingWaits_of_empty (by rw [takeMode, setMode_modes]; rfl)

/-- R173: after a re-check, a request that is still pending has a condition that fails. -/
theorem recheck_pendingWaits (hs : PendingAimed s.modes) : PendingWaits (recheck s) := by
  unfold recheck
  split
  next r hr =>
    split
    next => exact takeMode_pendingWaits r.target s
    next hfails =>
      intro r' hr'
      obtain rfl : r = r' := Option.some.inj (hr.symm.trans hr')
      obtain ⟨htarget, hother⟩ := hs r hr
      exact ⟨htarget, hother, Bool.eq_false_of_not_eq_true hfails⟩
  next hempty => exact pendingWaits_of_empty hempty

/-- R173: work that leaves mode control alone, and ends with a re-check. -/
theorem recheck_pendingWaits_of_modes (h : t.modes = s.modes) (hs : PendingWaits s) : PendingWaits (recheck t) :=
  recheck_pendingWaits (h ▸ pendingAimed_of_waits hs)

/-- R167, R168, R171: a request goes pending where its condition fails and its target is another mode. -/
theorem goPending_pendingWaits {target : Mode} {p : Port} {failing : Nat}
    (htarget : target = .setup ∨ target = .standby) (hother : target ≠ s.modes.mode)
    (hfails : pendingHolds s { target := target, origin := p } = false) :
    PendingWaits (goPending target p failing s).state := by
  intro r hr
  obtain rfl : { target := target, origin := p } = r := Option.some.inj hr
  exact ⟨htarget, hother, hfails⟩

/-! ### Answers: a wake event re-checks the request that it leaves pending (R178) -/

/-- R178: no pending request aims at WATCH, the mode that a wake event enters. -/
theorem setMode_watch_aimed (hs : PendingWaits s) : PendingAimed (setMode .watch s).modes := by
  rw [setMode_modes]
  intro r hr
  obtain ⟨htarget, -⟩ := hs r hr
  refine ⟨htarget, ?_⟩
  rcases htarget with hsetup | hstandby
  · simp [hsetup]
  · simp [hstandby]

theorem wakeEvent_pendingWaits (w : WakeSource) (hs : PendingWaits s) : PendingWaits (wakeEvent w s) := by
  unfold wakeEvent
  simp only
  split
  · have hnoted : PendingWaits (raiseIf (s.modes.flags w).notice .standbyEvent w.number (s.modes.flags w).wake.toNat s) :=
      pendingWaits_congr (by simp [pendingView]) hs
    split
    · exact recheck_pendingWaits (setMode_watch_aimed hnoted)
    · exact hnoted
  · exact hs

theorem wakeEvents_pendingWaits (ws : List WakeSource) (hs : PendingWaits s) : PendingWaits (wakeEvents ws s) := by
  induction ws generalizing s with
  | nil => exact hs
  | cons w ws ih => exact ih (wakeEvent_pendingWaits w hs)

theorem keptByAnswer_pendingWaits : KeptByAnswer PendingWaits where
  reply _ _ _ _ _ := pendingWaits_congr (by rfl)
  wakes ws _ := wakeEvents_pendingWaits ws
  zeros _ _ := pendingWaits_congr (by rfl)

/-! ### The moves (R24, R42) -/

theorem resolveTaken_pendingWaits (destination slot : Nat) (hs : PendingWaits s) :
    PendingWaits (resolveTaken destination slot s) := by
  unfold resolveTaken
  split
  · exact recheck_pendingWaits_of_modes (by simp) hs
  · exact recheck_pendingWaits_of_modes (by simp) hs
  · exact recheck_pendingWaits_of_modes (by simp) hs

theorem pendingView_refuseMove (code : Nat) (c : ReplyCode) (s : State) :
    pendingView (refuseMove code c s).state = pendingView s := by
  unfold refuseMove
  split <;> rfl

/-! ### The work of a device second, and of the events it makes (R37, R40, R74) -/

theorem expireStab_pendingWaits (hs : PendingWaits s) : PendingWaits (expireStab s) := by
  unfold expireStab
  split
  · exact recheck_pendingWaits_of_modes (by simp) hs
  · exact hs

theorem makeStale_pendingWaits (hs : PendingWaits s) : PendingWaits (makeStale s) := by
  unfold makeStale
  split
  · exact recheck_pendingWaits_of_modes (by simp) hs
  · exact hs

/-- R40, R173: the readback re-checks where a fault flag changes, and otherwise changes nothing that a condition looks at. -/
theorem permitReadback_pendingWaits (pins : SensePins) (hs : PendingWaits s) : PendingWaits (permitReadback pins s) := by
  unfold permitReadback
  simp only
  split
  · exact recheck_pendingWaits_of_modes (by simp) hs
  next hsame =>
    obtain ⟨hslips, hpump⟩ : (sensePermits pins s).tally.slips.fault = (compareLine (sensePermits pins s).tally.slips).fault ∧
        (sensePermits pins s).tally.pump.fault = (compareLine (sensePermits pins s).tally.pump).fault := by
      simpa [faultChanges] using hsame
    refine pendingWaits_congr ?_ hs
    simp only [pendingView, raiseIf_frame, State.setTally_tally, State.setTally_circ, State.setTally_modes, ← hslips,
      ← hpump]
    rfl

theorem secondComparison_pendingWaits (q : Permit) (sense : Bool) (hs : PendingWaits s) :
    PendingWaits (secondComparison q sense s) := by
  unfold secondComparison
  simp only
  split
  · exact recheck_pendingWaits_of_modes (by simp) hs
  · exact hs

theorem secondPasses_pendingWaits (pins : SensePins) (hs : PendingWaits s) : PendingWaits (secondPasses pins s) := by
  have hcounted : PendingWaits (wearSecond (advanceSeconds (overdueExpiries s))) :=
    pendingWaits_congr (by simp [pendingView, advanceSeconds, overdueExpiries])
      (makeStale_pendingWaits (expireStab_pendingWaits hs))
  exact pendingWaits_congr (by simp [pendingView, secondPasses]) (permitReadback_pendingWaits pins hcounted)

/-! ### A circulation report (R73): the change of status re-checks a pending mode request -/

theorem setStatus_pendingWaits (x : CircStatus) (hs : PendingWaits s) : PendingWaits (setStatus x s) := by
  unfold setStatus
  split
  · exact hs
  · exact recheck_pendingWaits_of_modes (by simp) hs

theorem reportJudged_pendingWaits (p1 p2 flowOut pit : Nat) (hs : PendingWaits s) :
    PendingWaits (reportJudged p1 p2 flowOut pit s) := by
  have hstatus : (reportJudged p1 p2 flowOut pit s).circ.status = s.circ.status := by rw [reportJudged_circ]
  refine pendingWaits_congr ?_ hs
  simp only [pendingView, hstatus]
  simp [reportJudged]

theorem reportCounted_pendingWaits (p1 p2 e : Nat) (hs : PendingWaits s) : PendingWaits (reportCounted p1 p2 e s) :=
  setStatus_pendingWaits _ (pendingWaits_congr (by rfl) hs)

/-- R66: the balance and the hand-offs leave the status that stage 3 decides. -/
theorem reportTaken_pendingWaits (p1 p2 flowOut pit : Nat) (hs : PendingWaits s) :
    PendingWaits (reportTaken p1 p2 flowOut pit s).state := by
  have hcounted := reportCounted_pendingWaits p1 p2 (reportSeconds s) (reportJudged_pendingWaits p1 p2 flowOut pit hs)
  refine pendingWaits_congr ?_ hcounted
  have hstatus : (reportTaken p1 p2 flowOut pit s).state.circ.status =
      (reportCounted p1 p2 (reportSeconds s) (reportJudged p1 p2 flowOut pit s)).circ.status := by
    rw [reportTaken_circ]
    exact (congrArg Circ.status (measured_balance _ _ _ _) :)
  simp only [pendingView, hstatus]
  simp only [reportTaken, taken_state, lagHandOff_frame, tellStrata_frame, balance_frame, reportElapsed_eq]
  rfl

/-! ### Power coming and going: no request is pending after it (R167, R196, R197) -/

theorem chooseMode_request (s : State) : (chooseMode s).modes.request = s.modes.request := by
  unfold chooseMode
  simp only
  split <;> rfl

theorem checkTally_modes (s : State) : (checkTally s).modes = s.modes := by
  unfold checkTally
  split <;> rfl

theorem powerUp_pendingWaits (valid : Bool) (s : State) : PendingWaits (powerUp valid s) := by
  refine pendingWaits_of_empty ?_
  calc (powerUp valid s).modes.request
    _ = (checkTally (countPowerEvent (chooseMode (readStore valid (volatileReset s))))).modes.request := rfl
    _ = (readStore valid (volatileReset s)).modes.request := by
      rw [checkTally_modes, countPowerEvent_eq, chooseMode_request]
    _ = none := by cases valid <;> rfl

theorem execPowerOn_pendingWaits {valid : Bool} (h : execPowerOn valid s = .next t) : PendingWaits t := by
  unfold execPowerOn at h
  split at h <;> cases h
  · exact powerUp_pendingWaits valid s
  · exact powerUp_pendingWaits valid s
  · exact pendingWaits_of_empty rfl
  · exact pendingWaits_of_empty rfl

theorem execResetAsserted_pendingWaits (hs : PendingWaits s) (h : execResetAsserted s = .next t) : PendingWaits t := by
  unfold execResetAsserted at h
  split at h <;> cases h <;> exact hs

theorem execResetReleased_pendingWaits {valid : Bool} (hs : PendingWaits s) (h : execResetReleased valid s = .next t) :
    PendingWaits t := by
  unfold execResetReleased at h
  split at h <;> cases h
  · exact powerUp_pendingWaits valid s
  · exact hs
  · exact hs
  · exact hs

theorem execReadTransaction_pendingWaits {p : Port} {clocked : Nat} (hs : PendingWaits s)
    (h : execReadTransaction p clocked s = .next t) : PendingWaits t := by
  unfold execReadTransaction at h
  split at h <;> cases h <;> exact hs

end

/-! ### Every command keeps a pending request only while its condition fails (R172, R173) -/

section
variable {s t : State} {p : Port} {code : Nat} {checks : State → List (Bool × ReplyCode)}

/-- A checked request whose effect touches nothing that `PendingWaits` looks at. -/
theorem request_pendingView {r : State → Response} (h : request p code (fun s => checked (checks s) s (r s)) s = .next t)
    (hs : PendingWaits s) (hr : pendingView (r s).state = pendingView s) : PendingWaits t :=
  request_checked_keeps keptByAnswer_pendingWaits h hs fun _ => pendingWaits_congr hr hs

theorem moveRequest_pendingWaits {effect : State → State} (h : moveRequest p code checks effect s = .next t)
    (hs : PendingWaits s) (he : PendingWaits (effect s)) : PendingWaits t :=
  moveRequest_keeps keptByAnswer_pendingWaits h hs
    (fun c => pendingWaits_congr (pendingView_refuseMove code c s) hs) fun _ => he

theorem execReleaseSlips_pendingWaits {pins : SensePins} (hs : PendingWaits s) (h : execReleaseSlips p pins s = .next t) :
    PendingWaits t := by
  have hsensed : PendingWaits (sensePermits pins s) := hs
  refine writeTransaction_keeps keptByAnswer_pendingWaits h hs (respond_keeps keptByAnswer_pendingWaits ?_)
  exact judgedMove_keeps (fun c => pendingWaits_congr (pendingView_refuseMove _ c _) hsensed)
    fun _ => recheck_pendingWaits_of_modes (by simp) hs

theorem execReadTally_pendingWaits {pins : SensePins} (hs : PendingWaits s) (h : execReadTally p pins s = .next t) :
    PendingWaits t :=
  writeTransaction_keeps keptByAnswer_pendingWaits h hs (respond_keeps keptByAnswer_pendingWaits hs)

theorem execBadFrame_pendingWaits (hs : PendingWaits s) (h : execBadFrame p code s = .next t) : PendingWaits t :=
  writeTransaction_keeps keptByAnswer_pendingWaits h hs hs

theorem execUnknownRequest_pendingWaits (hs : PendingWaits s) (h : execUnknownRequest p code s = .next t) :
    PendingWaits t :=
  writeTransaction_keeps keptByAnswer_pendingWaits h hs hs

/-- R168: ENTER SETUP goes pending from another mode, while rig-quiet fails. -/
theorem execEnterSetup_pendingWaits (hs : PendingWaits s) (h : execEnterSetup p s = .next t) : PendingWaits t := by
  refine request_checked_keeps keptByAnswer_pendingWaits h hs fun _ => ?_
  split
  · exact takeMode_pendingWaits _ s
  next hwaits =>
    obtain ⟨hother, hfails⟩ := not_or.mp hwaits
    exact goPending_pendingWaits (.inl rfl) (Ne.symm hother) (beq_false_of_ne hfails)

theorem execEnterRun_pendingWaits (hs : PendingWaits s) (h : execEnterRun p s = .next t) : PendingWaits t := by
  refine request_checked_keeps keptByAnswer_pendingWaits h hs fun _ => ?_
  split
  · exact hs
  · exact takeMode_pendingWaits _ s

/-- R171: ENTER STANDBY goes pending from another mode, while the standby condition fails. -/
theorem execEnterStandby_pendingWaits (hs : PendingWaits s) (h : execEnterStandby p s = .next t) : PendingWaits t := by
  refine request_keeps keptByAnswer_pendingWaits h hs ?_
  split
  · exact hs
  · split
    · exact takeMode_pendingWaits _ s
    next hwaits =>
      obtain ⟨hother, hfails⟩ := not_or.mp hwaits
      exact goPending_pendingWaits (.inr rfl) (Ne.symm hother) (beq_false_of_ne hfails)

/-- R176: SET WAKE TABLE stores flags, and leaves the mode and the pending request. -/
theorem wakeTableGiven_keeps (sources : List WakeField) (m : Modes) :
    ((wakeTableGiven sources m).getD m).mode = m.mode ∧ ((wakeTableGiven sources m).getD m).request = m.request := by
  unfold wakeTableGiven
  split
  · split <;> exact ⟨rfl, rfl⟩
  · exact ⟨rfl, rfl⟩

theorem execSetWakeTable_pendingWaits {sources : List WakeField} (hs : PendingWaits s)
    (h : execSetWakeTable p sources s = .next t) : PendingWaits t :=
  request_pendingView h hs (by simp [pendingView, wakeTableGiven_keeps])

theorem exec_pendingWaits (c : Instr) (hs : PendingWaits s) (h : exec c s = .next t) : PendingWaits t := by
  cases c with
  | enterSetup => exact execEnterSetup_pendingWaits hs h
  | enterRun => exact execEnterRun_pendingWaits hs h
  | enterWatch => exact request_checked_keeps keptByAnswer_pendingWaits h hs fun _ => takeMode_pendingWaits _ s
  | enterStandby => exact execEnterStandby_pendingWaits hs h
  | cancelMode => exact request_checked_keeps keptByAnswer_pendingWaits h hs fun _ => pendingWaits_of_empty rfl
  | setWakeTable => exact execSetWakeTable_pendingWaits hs h
  | pendingModeTaken => exact whileRunning_keeps h hs (recheck_pendingWaits_of_modes rfl hs)
  | circulation =>
    exact request_checked_keeps keptByAnswer_pendingWaits h hs fun _ => reportTaken_pendingWaits _ _ _ _ hs
  | circStale => exact whileRunning_keeps h hs (makeStale_pendingWaits hs)
  | deviceSecond => exact whileRunning_keeps h hs (secondPasses_pendingWaits _ hs)
  | makeupExpired => exact whileRunning_keeps h hs (expireStab_pendingWaits hs)
  | permitFault => exact whileRunning_keeps h hs (secondComparison_pendingWaits _ _ hs)
  | sampleArrival => exact whileRunning_keeps h hs (pendingWaits_congr (by simp [pendingView]) hs)
  | powerOn => exact execPowerOn_pendingWaits h
  | resetAsserted => exact execResetAsserted_pendingWaits hs h
  | resetReleased => exact execResetReleased_pendingWaits hs h
  | powerLoss => cases h; exact pendingWaits_of_empty rfl
  | readTransaction => exact execReadTransaction_pendingWaits hs h
  | releaseSlips => exact execReleaseSlips_pendingWaits hs h
  | resolveRod => exact moveRequest_pendingWaits h hs (resolveTaken_pendingWaits _ _ hs)
  | setSlips | unlatch | latch | breakJoint | pickRod | stab | makeJoint | rackRod | layOutRod =>
    exact moveRequest_pendingWaits h hs (recheck_pendingWaits_of_modes (by simp) hs)
  | readTally => exact execReadTally_pendingWaits hs h
  | badFrame => exact execBadFrame_pendingWaits hs h
  | unknownRequest => exact execUnknownRequest_pendingWaits hs h
  | portReset | readNotice | readSummary =>
    exact request_keeps keptByAnswer_pendingWaits h hs (pendingWaits_congr (s := s) (by simp [pendingView]) hs)
  | readRod | readRodList | readSlot | readLaidOutList | readWearLimits | readStack | readBha | readMakeupLimits
  | readDepth | readCirculation | readChannel | readPumps | readCasingProgram | readAnnulus | readLagQueue | readLog
  | readInterval | readIntervalAtDepth | readSamples | readTicket | readRateCard | readJobTotals | readNoticeStatus
  | readNoticeLevels | readMode | readPortStatus | readJob => exact readRequest_keeps keptByAnswer_pendingWaits h hs
  | rackSense =>
    refine request_pendingView h hs ?_
    exact foldl_keeps pendingView (fun s n => raise .rackDiscrepancy n 0 s) (fun _ _ => rfl) _ _
  | setPump =>
    refine request_checked_keeps keptByAnswer_pendingWaits h hs fun _ => ?_
    unfold setPumpRecord
    split <;> exact hs
  | registerRod | deleteRod | restoreRod | setWearLimits | setSlotSensing | setBha | setMakeupLimits | block | downStart
  | downEnd | setCirculationLimits | additive | setCasingProgram | sampleCaught | setDrillBreak | reArm | classify
  | confirm | merge | split | waterStrike | clearWaterStrike | setBandRates | setTierMultipliers | setHourlyRates
  | setAdditivePrices | closeTicket | acknowledgeTicket | setNoticeLevels | setNoticeFilter | openJob | closeJob =>
    exact request_pendingView h hs (by simp [pendingView, registerRodTaken, restoreRodTaken, openJobTaken])

end

/-- Settles O13: whatever changes a fact that rig-quiet or the standby condition looks at re-checks the pending request
(`recheck_pendingWaits`), and so does a wake event after it enters WATCH; a request goes pending only where its condition fails. -/
theorem stepKeepsPendingWaits : Obligations.StepKeepsPendingWaits := fun s t hs h =>
  step_keeps PendingWaits (fun _ _ h => h) (fun c _ _ hs h => exec_pendingWaits c hs h) s t hs h

end Sys2Proof.Machine

namespace Sys2Proof.Machine

/-! ### Wake events (R177, R178) -/

/-- R177: the wake event of a request, by its port and code. -/
theorem requestWake_eq (p : Port) (code : Nat) :
    requestWake p code =
      if code < 128 ∧ p = .floor then [.floorActivity]
      else if code < 128 ∧ p = .record ∧ ¬ (80 ≤ code ∧ code ≤ 84) then [.recordRequest]
      else [] := by
  unfold requestWake
  by_cases hread : 128 ≤ code
  · simp [hread, Nat.not_lt.mpr hread]
  · cases p with
    | floor | mud => simp [hread]
    | record => by_cases hmode : 80 ≤ code ∧ code ≤ 84 <;> simp [hread, hmode]

/-- Settles O55: `requestWake_eq`, and the two flags of a wake event in STANDBY by definition. -/
theorem wakeEventsByRule : Obligations.WakeEventsByRule := by
  refine ⟨requestWake_eq, fun w s => ?_⟩
  intro f noted
  by_cases hstandby : s.modes.mode = .standby
  · rw [if_neg (not_not_intro hstandby), wakeEvent]
    simp only [hstandby, if_true]
    rfl
  · rw [if_pos hstandby, wakeEvent_awake w s hstandby]

end Sys2Proof.Machine

namespace Sys2Proof.Machine

/-! ### The four mode requests and CANCEL MODE (R166 to R171, R174) -/

section
variable {p : Port} {code : Nat} {s : State}

/-- R169, R171: the entry checks are made in SETUP alone. -/
theorem entryRefused_iff (s : State) : entryRefused s = true ↔ s.modes.mode = .setup ∧ entrySum s ≠ 0 := by
  simp [entryRefused, entryFailing_eq]

theorem settledBy_refuseIncomplete :
    settledBy p code (refuseIncomplete s) = settled p code .incomplete (num1 (entrySum s)) s := by
  simp [refuseIncomplete, refuse, settledBy, settled, entryFailing_eq]

theorem settledBy_takeMode (m : Mode) : settledBy p code (taken (takeMode m s)) = settled p code .ok [] (modeTaken m s) :=
  settledBy_taken ..

theorem settledBy_goPending (target : Mode) (failing : Nat) :
    settledBy p code (goPending target p failing s) = settled p code .pending [] (modePending target p failing s) := by
  simp [goPending, taken, settledBy, settled, modePending, State.setModes]

/-- R167, R168, R171: a mode request that enters its target at once, or goes pending with the sum of what fails. -/
theorem settledBy_takeOrPend (target : Mode) (failing : Nat) :
    settledBy p code (if s.modes.mode = target ∨ failing = 0 then taken (takeMode target s) else goPending target p failing s) =
      if s.modes.mode = target ∨ failing = 0 then settled p code .ok [] (modeTaken target s)
      else settled p code .pending [] (modePending target p failing s) := by
  rw [settledBy_ite, settledBy_takeMode, settledBy_goPending]

/-- R169, R171: a mode request that the entry checks refuse INCOMPLETE, and otherwise `r`. -/
theorem settledBy_entryChecks (r : Response) :
    settledBy p code (if entryRefused s = true then refuseIncomplete s else r) =
      if s.modes.mode = .setup ∧ entrySum s ≠ 0 then settled p code .incomplete (num1 (entrySum s)) s
      else settledBy p code r := by
  rw [settledBy_ite, settledBy_refuseIncomplete]
  exact if_congr (entryRefused_iff s) rfl rfl

theorem execEnterSetup_eq (p : Port) (h : s.power = .running) :
    exec (.enterSetup p) s = .next (
      if p ≠ .record then settled p 80 .notPermitted [] s
      else if s.modes.mode = .setup ∨ quietSum s = 0 then settled p 80 .ok [] (modeTaken .setup s)
      else settled p 80 .pending [] (modePending .setup p (quietSum s) s)) := by
  refine request_eq h (settledBy_check (onlyFrom_record p) fun _ => ?_)
  rw [settledBy_checked_nil, quietFailing_eq, settledBy_takeOrPend]

theorem execEnterRun_eq (p : Port) (h : s.power = .running) :
    exec (.enterRun p) s = .next (
      if p ≠ .record then settled p 81 .notPermitted [] s
      else if s.modes.mode = .setup ∧ entrySum s ≠ 0 then settled p 81 .incomplete (num1 (entrySum s)) s
      else settled p 81 .ok [] (modeTaken .run s)) := by
  refine request_eq h (settledBy_check (onlyFrom_record p) fun _ => ?_)
  rw [settledBy_checked_nil, settledBy_entryChecks, settledBy_takeMode]

theorem execEnterWatch_eq (p : Port) (h : s.power = .running) :
    exec (.enterWatch p) s = .next (
      if p ≠ .record then settled p 82 .notPermitted [] s
      else if s.modes.mode = .setup then settled p 82 .wrongMode [] s
      else settled p 82 .ok [] (modeTaken .watch s)) := by
  refine request_eq h (settledBy_check (onlyFrom_record p) fun _ => ?_)
  exact settledBy_check beq_iff_eq fun _ => settledBy_takeMode .watch

theorem execEnterStandby_eq (p : Port) (h : s.power = .running) :
    exec (.enterStandby p) s = .next (
      if s.modes.mode = .setup ∧ entrySum s ≠ 0 then settled p 83 .incomplete (num1 (entrySum s)) s
      else if s.modes.mode = .standby ∨ standbySum s = 0 then settled p 83 .ok [] (modeTaken .standby s)
      else settled p 83 .pending [] (modePending .standby p (standbySum s) s)) := by
  refine request_eq h ?_
  rw [settledBy_entryChecks, standbyFailing_eq, settledBy_takeOrPend]

/-- R174: RECORD and the port of the pending request may cancel it. -/
theorem mayNotCancel_iff (p : Port) {r : PendingMode} (hr : s.modes.request = some r) :
    mayNotCancel p s = true ↔ p ≠ .record ∧ p ≠ r.origin := by
  simp [mayNotCancel, hr]

theorem execCancelMode_eq (p : Port) (h : s.power = .running) :
    exec (.cancelMode p) s = .next (
      match s.modes.request with
      | none => settled p 84 .noSuch [] s
      | some r =>
        if p ≠ .record ∧ p ≠ r.origin then settled p 84 .notPermitted [] s
        else settled p 84 .ok [] { s with modes := { s.modes with request := none } }) := by
  refine request_eq h ?_
  cases hr : s.modes.request with
  | none => simp
  | some r =>
    rw [settledBy_checked_cons, if_neg (by simp)]
    exact settledBy_check (mayNotCancel_iff p hr) fun _ => settledBy_taken ..

/-! ### SET WAKE TABLE (R176) -/

/-- R176: the flags that the two bytes of a source spell. -/
def wakeFlagsOf (x : WakeField) : WakeFlags := { wake := decide (x.wake = 1), notice := decide (x.notice = 1) }

theorem flagsOf_of_le_one {x : WakeField} (hwake : x.wake ≤ 1) (hnotice : x.notice ≤ 1) :
    flagsOf x = some (wakeFlagsOf x) := by
  rw [flagsOf, switchOf_of_le_one hwake, switchOf_of_le_one hnotice]
  rfl

theorem flagsOf_isNone (x : WakeField) : (flagsOf x).isNone = true ↔ 1 < x.wake ∨ 1 < x.notice := by
  rw [← switchOf_isNone, ← switchOf_isNone, flagsOf]
  cases switchOf x.wake <;> cases switchOf x.notice <;> simp

/-- R176: a table is refused exactly where a byte of one of its sources is neither 0 nor 1. -/
theorem wakeTableGiven_isNone (a b c d : WakeField) (m : Modes) :
    (wakeTableGiven [a, b, c, d] m).isNone = true ↔ ∃ x ∈ [a, b, c, d], 1 < x.wake ∨ 1 < x.notice := by
  simp only [← flagsOf_isNone, List.mem_cons, List.not_mem_nil, or_false, exists_eq_or_imp, exists_eq_left, wakeTableGiven]
  cases flagsOf a with
  | none => simp
  | some => cases flagsOf b with
    | none => simp
    | some => cases flagsOf c with
      | none => simp
      | some => cases flagsOf d <;> simp

theorem wakeTableGiven_of_le_one {a b c d : WakeField} (m : Modes)
    (h : ∀ x ∈ [a, b, c, d], x.wake ≤ 1 ∧ x.notice ≤ 1) :
    wakeTableGiven [a, b, c, d] m = some { m with
      floorActivity := wakeFlagsOf a, circulation := wakeFlagsOf b, recordRequest := wakeFlagsOf c,
      artesian := wakeFlagsOf d } := by
  have hflags : ∀ x ∈ [a, b, c, d], flagsOf x = some (wakeFlagsOf x) := fun x hx =>
    have ⟨hwake, hnotice⟩ := h x hx
    flagsOf_of_le_one hwake hnotice
  simp only [List.forall_mem_cons] at hflags
  obtain ⟨ha, hb, hc, hd, -⟩ := hflags
  rw [wakeTableGiven, ha, hb, hc, hd]

theorem execSetWakeTable_eq (p : Port) (a b c d : WakeField) (h : s.power = .running) :
    let modes := { s.modes with
      floorActivity := wakeFlagsOf a, circulation := wakeFlagsOf b, recordRequest := wakeFlagsOf c,
      artesian := wakeFlagsOf d }
    exec (.setWakeTable p [a, b, c, d]) s = .next (
      if p ≠ .record then settled p 85 .notPermitted [] s
      else if s.modes.mode ≠ .setup then settled p 85 .wrongMode [] s
      else if ∃ x ∈ [a, b, c, d], 1 < x.wake ∨ 1 < x.notice then settled p 85 .outOfRange [] s
      else settled p 85 .ok [] { s with modes := modes, tally := permitsUnder modes s.tally }) := by
  intro modes
  refine request_eq h ?_
  refine settledBy_check (onlyFrom_record p) fun _ => ?_
  refine settledBy_check (onlyInSetup_iff s) fun _ => ?_
  refine settledBy_check (wakeTableGiven_isNone a b c d s.modes) fun hrange => ?_
  have hbytes : ∀ x ∈ [a, b, c, d], x.wake ≤ 1 ∧ x.notice ≤ 1 := by simpa using hrange
  rw [settledBy_checked_nil, settledBy_taken, wakeTableGiven_of_le_one s.modes hbytes, drivePermits_eq]
  rfl

end

/-- Settles O53, one request at a time: the entry checks by `settledBy_entryChecks`, a request taken or left pending by
`settledBy_takeOrPend`, and the wake table by `wakeTableGiven_isNone` and `wakeTableGiven_of_le_one`. -/
theorem modeControlRequests : Obligations.ModeControlRequests :=
  ⟨⟨fun p _ => execEnterSetup_eq p, fun p _ => execEnterRun_eq p, fun p _ => execEnterWatch_eq p,
    fun p _ => execEnterStandby_eq p⟩, fun p _ => execCancelMode_eq p, fun p a b c d _ => execSetWakeTable_eq p a b c d⟩

end Sys2Proof.Machine

namespace Sys2Proof.Laws

/-! ### Numbers and payloads (R182) -/

@[simp] theorem leBytes_length (width v : Nat) : (leBytes width v).length = width := by
  induction width generalizing v with
  | zero => rfl
  | succ width ih => simp [leBytes, ih]

/-- R182: a number that fits its bytes is read back from them. -/
theorem leNat_leBytes (width v : Nat) (h : v < 256 ^ width) : leNat (leBytes width v) = v := by
  induction width generalizing v with
  | zero => simp at h; simp [leBytes, leNat, h]
  | succ width ih =>
    have hrest : v / 256 < 256 ^ width := Nat.div_lt_of_lt_mul (by rwa [pow_succ'] at h)
    rw [leBytes, leNat, ih _ hrest, BitVec.toNat_ofNat]
    exact Nat.mod_add_div v 256

@[simp] theorem encodeFields_cons (f : Field) (fs : List Field) :
    encodeFields (f :: fs) = leBytes f.width f.value ++ encodeFields fs := rfl

@[simp] theorem encodeFields_length (fs : List Field) : (encodeFields fs).length = (fs.map Field.width).sum := by
  induction fs with
  | nil => rfl
  | cons f fs ih => simp [ih]

/-- R182: the numbers of a payload of fields that fit are the values of those fields. -/
theorem parseFields_encodeFields (fs : List Field) (h : ∀ f ∈ fs, f.fits = true) :
    parseFields (fs.map Field.width) (encodeFields fs) = some (fs.map Field.value) := by
  induction fs with
  | nil => rfl
  | cons f fs ih =>
    obtain ⟨hf, hfs⟩ := List.forall_mem_cons.mp h
    have hvalue : leNat (leBytes f.width f.value) = f.value := leNat_leBytes _ _ (by simpa [Field.fits] using hf)
    simp [parseFields, ih hfs, hvalue]

/-- R187, check 4: only a payload as long as its fields is read. -/
theorem length_of_parseFields {widths : List Nat} {bs : List Byte} {vs : List Nat}
    (h : parseFields widths bs = some vs) : widths.sum = bs.length := by
  induction widths generalizing bs vs with
  | nil => cases bs with
    | nil => rfl
    | cons => simp [parseFields] at h
  | cons w ws ih =>
    rw [parseFields] at h
    split at h
    · cases h
    · obtain ⟨rest, hrest, -⟩ := Option.map_eq_some_iff.mp h
      have hdrop := ih hrest
      rw [List.length_drop] at hdrop
      rw [List.sum_cons]
      omega

/-! ### The index of the requests (10.8) -/

/-- A code that has fields is in the index: row by row of the table of widths. -/
theorem mem_requestCodes_of_requestWidths {code : Nat} {payload : List Byte} {widths : List Nat}
    (h : requestWidths code payload = some widths) : code ∈ requestCodes := by
  unfold requestWidths at h
  split at h <;> cases h <;> decide

theorem lt_of_mem_requestCodes {code : Nat} (h : code ∈ requestCodes) : code < 256 :=
  (by decide : ∀ c ∈ requestCodes, c < 256) code h

/-- R181: every request carries a byte of payload, those without fields included. -/
theorem requestWidths_sum_pos {code : Nat} {payload : List Byte} {widths : List Nat}
    (h : requestWidths code payload = some widths) : 1 ≤ widths.sum := by
  unfold requestWidths at h
  split at h <;> cases h <;> simp [flagWidths]

/-! ### The check byte (R181, R187) -/

@[simp] theorem byteSum_append_checkByte (body : List Byte) : byteSum (body ++ [checkByte body]) = 0 := by
  simp [checkByte, byteSum]

/-! ### A write transaction received (R180, R187) -/

section
variable {n : Byte} {bs : List Byte}

/-- R187, check 1. -/
theorem lengthOk_cons : lengthOk (n :: bs) = true ↔ 4 ≤ n.toNat ∧ n.toNat ≤ 64 ∧ bs.length + 1 = n.toNat := by
  simp [lengthOk, and_assoc]

theorem echoedCode_cons : echoedCode (n :: bs) = (bs.headD 0).toNat := by
  cases bs <;> rfl

/-- R187: a write transaction whose length or sum is wrong. -/
theorem receive_damaged (p : Port) (pins : SensePins) (hn : n ≠ 0)
    (h : ¬ (lengthOk (n :: bs) = true ∧ byteSum (n :: bs) = 0)) :
    receive p pins (n :: bs) = some (.badFrame p (bs.headD 0).toNat) := by
  rw [receive, if_neg hn, if_neg (by simpa using h), echoedCode_cons]

/-- R187: a write transaction whose length and sum are right is judged by its code and payload. -/
theorem receive_intact (p : Port) (pins : SensePins) (hn : n ≠ 0) (hlength : lengthOk (n :: bs) = true)
    (hsum : byteSum (n :: bs) = 0) :
    receive p pins (n :: bs) = some (requestOrRefusal p pins (bs.headD 0).toNat (bs.drop 1).dropLast) := by
  rw [receive, if_neg hn, if_pos (by simp [hlength, hsum]), echoedCode_cons]
  rfl

end

/-- R187, check 3. -/
theorem requestOrRefusal_unlisted (p : Port) (pins : SensePins) {code : Nat} (payload : List Byte)
    (h : code ∉ requestCodes) : requestOrRefusal p pins code payload = .unknownRequest p code := by
  have hnone : requestWidths code payload = none :=
    Option.eq_none_iff_forall_ne_some.mpr fun _ hw => h (mem_requestCodes_of_requestWidths hw)
  rw [requestOrRefusal, hnone]

/-- R187, check 4. -/
theorem requestOrRefusal_wrong_length (p : Port) (pins : SensePins) {code : Nat} {payload : List Byte}
    {widths : List Nat} (hw : requestWidths code payload = some widths) (h : widths.sum ≠ payload.length) :
    requestOrRefusal p pins code payload = .badFrame p code := by
  have hnone : parseFields widths payload = none :=
    Option.eq_none_iff_forall_ne_some.mpr fun _ hv => h (length_of_parseFields hv)
  simp only [requestOrRefusal, hw, hnone, Option.bind_none]

/-- Settles O16: the length and the sum by `receive_damaged`, the code and the payload length by `receive_intact`. -/
theorem receiveRefusesBadFrames : Obligations.ReceiveRefusesBadFrames := by
  intro p pins n bs hn
  refine ⟨fun hlength => ?_, fun hsum => ?_, fun hlength hsum => ⟨fun hcode => ?_, fun widths hw hpayload => ?_⟩⟩
  · exact receive_damaged p pins hn fun ⟨h, _⟩ => hlength (lengthOk_cons.mp h)
  · exact receive_damaged p pins hn fun ⟨_, h⟩ => hsum h
  · rw [receive_intact p pins hn (lengthOk_cons.mpr hlength) hsum,
      requestOrRefusal_unlisted p pins _ (by simpa using hcode)]
  · rw [receive_intact p pins hn (lengthOk_cons.mpr hlength) hsum, requestOrRefusal_wrong_length p pins hw hpayload]

end Sys2Proof.Laws

namespace Sys2Proof.Laws

/-! ### The frame of a request received (R181, R182) -/

/-- The lemmas of Laws/PerInstr.lean, one per command, as one. -/
theorem codecFields : ∀ i : Instr, CodecFields.Statement i
  | .registerRod _ _ _ _ _ => CodecFields.registerRod _ _ _ _ _
  | .deleteRod _ _ => CodecFields.deleteRod _ _
  | .restoreRod _ _ _ => CodecFields.restoreRod _ _ _
  | .setWearLimits _ _ _ => CodecFields.setWearLimits _ _ _
  | .setSlotSensing _ _ _ => CodecFields.setSlotSensing _ _ _
  | .rackSense _ _ _ => CodecFields.rackSense _ _ _
  | .setBha _ _ => CodecFields.setBha _ _
  | .setSlips _ => CodecFields.setSlips _
  | .releaseSlips _ _ => CodecFields.releaseSlips _ _
  | .unlatch _ => CodecFields.unlatch _
  | .latch _ => CodecFields.latch _
  | .breakJoint _ => CodecFields.breakJoint _
  | .pickRod _ _ => CodecFields.pickRod _ _
  | .stab _ => CodecFields.stab _
  | .makeJoint _ => CodecFields.makeJoint _
  | .rackRod _ _ => CodecFields.rackRod _ _
  | .layOutRod _ => CodecFields.layOutRod _
  | .resolveRod _ _ _ => CodecFields.resolveRod _ _ _
  | .setMakeupLimits _ _ _ => CodecFields.setMakeupLimits _ _ _
  | .block _ _ _ => CodecFields.block _ _ _
  | .downStart _ => CodecFields.downStart _
  | .downEnd _ => CodecFields.downEnd _
  | .setPump _ _ _ _ _ => CodecFields.setPump _ _ _ _ _
  | .setCirculationLimits _ _ _ _ _ => CodecFields.setCirculationLimits _ _ _ _ _
  | .circulation _ _ _ _ _ => CodecFields.circulation _ _ _ _ _
  | .additive _ _ _ => CodecFields.additive _ _ _
  | .setCasingProgram _ _ => CodecFields.setCasingProgram _ _
  | .sampleCaught _ _ => CodecFields.sampleCaught _ _
  | .setDrillBreak _ _ _ => CodecFields.setDrillBreak _ _ _
  | .reArm _ => CodecFields.reArm _
  | .classify _ _ _ _ => CodecFields.classify _ _ _ _
  | .confirm _ _ => CodecFields.confirm _ _
  | .merge _ _ => CodecFields.merge _ _
  | .split _ _ => CodecFields.split _ _
  | .waterStrike _ _ _ => CodecFields.waterStrike _ _ _
  | .clearWaterStrike _ _ => CodecFields.clearWaterStrike _ _
  | .setBandRates _ _ _ => CodecFields.setBandRates _ _ _
  | .setTierMultipliers _ _ => CodecFields.setTierMultipliers _ _
  | .setHourlyRates _ _ => CodecFields.setHourlyRates _ _
  | .setAdditivePrices _ _ => CodecFields.setAdditivePrices _ _
  | .closeTicket _ _ => CodecFields.closeTicket _ _
  | .acknowledgeTicket _ _ => CodecFields.acknowledgeTicket _ _
  | .setNoticeLevels _ _ => CodecFields.setNoticeLevels _ _
  | .setNoticeFilter _ _ _ _ _ => CodecFields.setNoticeFilter _ _ _ _ _
  | .enterSetup _ => CodecFields.enterSetup _
  | .enterRun _ => CodecFields.enterRun _
  | .enterWatch _ => CodecFields.enterWatch _
  | .enterStandby _ => CodecFields.enterStandby _
  | .cancelMode _ => CodecFields.cancelMode _
  | .setWakeTable _ _ => CodecFields.setWakeTable _ _
  | .portReset _ => CodecFields.portReset _
  | .openJob _ _ _ _ => CodecFields.openJob _ _ _ _
  | .closeJob _ _ => CodecFields.closeJob _ _
  | .readRod _ _ => CodecFields.readRod _ _
  | .readRodList _ _ => CodecFields.readRodList _ _
  | .readSlot _ _ => CodecFields.readSlot _ _
  | .readLaidOutList _ _ => CodecFields.readLaidOutList _ _
  | .readWearLimits _ => CodecFields.readWearLimits _
  | .readTally _ _ => CodecFields.readTally _ _
  | .readStack _ _ => CodecFields.readStack _ _
  | .readBha _ => CodecFields.readBha _
  | .readMakeupLimits _ => CodecFields.readMakeupLimits _
  | .readDepth _ => CodecFields.readDepth _
  | .readCirculation _ => CodecFields.readCirculation _
  | .readChannel _ _ => CodecFields.readChannel _ _
  | .readPumps _ => CodecFields.readPumps _
  | .readCasingProgram _ => CodecFields.readCasingProgram _
  | .readAnnulus _ => CodecFields.readAnnulus _
  | .readLagQueue _ _ => CodecFields.readLagQueue _ _
  | .readLog _ => CodecFields.readLog _
  | .readInterval _ _ => CodecFields.readInterval _ _
  | .readIntervalAtDepth _ _ => CodecFields.readIntervalAtDepth _ _
  | .readSamples _ _ => CodecFields.readSamples _ _
  | .readTicket _ _ _ => CodecFields.readTicket _ _ _
  | .readRateCard _ _ => CodecFields.readRateCard _ _
  | .readJobTotals _ _ => CodecFields.readJobTotals _ _
  | .readNotice _ => CodecFields.readNotice _
  | .readSummary _ => CodecFields.readSummary _
  | .readNoticeStatus _ => CodecFields.readNoticeStatus _
  | .readNoticeLevels _ => CodecFields.readNoticeLevels _
  | .readMode _ => CodecFields.readMode _
  | .readPortStatus _ => CodecFields.readPortStatus _
  | .readJob _ => CodecFields.readJob _
  | .readTransaction _ _ => CodecFields.readTransaction _ _
  | .badFrame _ _ => CodecFields.badFrame _ _
  | .unknownRequest _ _ => CodecFields.unknownRequest _ _
  | .deviceSecond _ => CodecFields.deviceSecond _
  | .makeupExpired => CodecFields.makeupExpired
  | .circStale => CodecFields.circStale
  | .permitFault _ _ => CodecFields.permitFault _ _
  | .pendingModeTaken => CodecFields.pendingModeTaken
  | .sampleArrival => CodecFields.sampleArrival
  | .powerOn _ => CodecFields.powerOn _
  | .resetAsserted => CodecFields.resetAsserted
  | .resetReleased _ => CodecFields.resetReleased _
  | .powerLoss => CodecFields.powerLoss

/-- R181, R187: a frame of 4 to 64 bytes passes the checks of length and sum, and its code and payload are read from it. -/
theorem receive_frameOf (p : Port) (pins : SensePins) {code : Nat} {payload : List Byte} (hcode : code < 256)
    (hmin : 1 ≤ payload.length) (hmax : payload.length + 3 ≤ 64) :
    receive p pins (frameOf code payload) = some (requestOrRefusal p pins code payload) := by
  have hlength : (BitVec.ofNat 8 (payload.length + 3)).toNat = payload.length + 3 :=
    Nat.mod_eq_of_lt (by omega)
  have hn : BitVec.ofNat 8 (payload.length + 3) ≠ 0 := by
    intro h
    rw [h] at hlength
    simp at hlength
  have hread : (BitVec.ofNat 8 code).toNat = code := Nat.mod_eq_of_lt hcode
  have hreceived := receive_intact p pins hn (bs := BitVec.ofNat 8 code :: payload ++ [checkByte _])
    (lengthOk_cons.mpr ⟨by omega, by omega, by simp [hlength]⟩)
    (byteSum_append_checkByte (_ :: BitVec.ofNat 8 code :: payload))
  simpa [frameOf, hread] using hreceived

/-- R182, R187: a code and a payload that are those of the fields of a request make that request. -/
theorem requestOrRefusal_encodeFields (p : Port) (pins : SensePins) {code : Nat} {fs : List Field} {i : Instr}
    (hfits : ∀ f ∈ fs, f.fits = true) (hwidths : requestWidths code (encodeFields fs) = some (fs.map Field.width))
    (hvalues : requestOf p pins code (fs.map Field.value) = some i) :
    requestOrRefusal p pins code (encodeFields fs) = i := by
  simp only [requestOrRefusal, hwidths, parseFields_encodeFields fs hfits, Option.bind_some, hvalues]

/-- R181, R182: every field of a well-formed command fits its bytes, and its frame is no longer than 64. -/
theorem fits_of_wf {i : Instr} (h : i.wf = true) :
    (∀ f ∈ i.fields, f.fits = true) ∧ (encodeFields i.fields).length + 3 ≤ 64 := by
  simp only [Instr.wf, Bool.and_eq_true, List.all_eq_true, payloadLength] at h
  obtain ⟨⟨⟨hfits, hlength⟩, -⟩, -⟩ := h
  exact ⟨hfits, by simpa using hlength⟩

/-- Settles O14: the frame is intact (`receive_frameOf`), and the fields of the request, read back by `codecFields`, make it
(`requestOrRefusal_encodeFields`). -/
theorem receiveInvertsEncode : Obligations.ReceiveInvertsEncode := by
  intro i p pins bs wf hport hpins hencode
  obtain ⟨code, hcode, rfl⟩ := Option.map_eq_some_iff.mp hencode
  obtain ⟨hwidths, hvalues⟩ := codecFields i wf code hcode p pins hport hpins
  obtain ⟨hfits, hmax⟩ := fits_of_wf wf
  have hmin : 1 ≤ (encodeFields i.fields).length := by
    rw [encodeFields_length]
    exact requestWidths_sum_pos hwidths
  have hindex : code < 256 := lt_of_mem_requestCodes (mem_requestCodes_of_requestWidths hwidths)
  rw [receive_frameOf p pins hindex hmin hmax, requestOrRefusal_encodeFields p pins hfits hwidths hvalues]

/-- Settles O15: closed frames, evaluated; the sense levels are passed on as they are. -/
theorem receiveSpelledFrames : Obligations.ReceiveSpelledFrames := by
  intro pins
  and_intros <;> rfl

end Sys2Proof.Laws

namespace Sys2Proof.Machine

/-! ### The queue (log entries 1 and 2) -/

/-- Settles O1, by `step_front` and `step_empty`. -/
theorem stepTakesFrontCommand : Obligations.StepTakesFrontCommand :=
  ⟨fun c rest _ => step_front _ c rest rfl, step_empty⟩

/-! ### Read transactions and replies (R180, R181, R185, R187) -/

section
variable {p : Port} {n : Nat} {s : State}

/-- R180: a read transaction in the dark, or of no byte, has no effect. -/
theorem execReadTransaction_idle (h : n = 0 ∨ s.power = .off ∨ s.power = .offResetHeld) :
    exec (.readTransaction p n) s = .next s := by
  change execReadTransaction p n s = _
  unfold execReadTransaction
  rcases h with rfl | h | h
  · cases s.power <;> rfl
  · rw [h]
  · rw [h]

/-- R180, R197: with RESET held, a read transaction shifts out zeros. -/
theorem execReadTransaction_held (hn : 0 < n) (h : s.power = .resetHeld) :
    exec (.readTransaction p n) s = .next (modifyPort p (fun x => { x with dataOut := shiftedOut [] n }) s) := by
  change execReadTransaction p n s = _
  obtain ⟨k, rfl⟩ := Nat.exists_eq_add_of_lt hn
  simp [execReadTransaction, h]

theorem execReadTransaction_running (hn : 0 < n) (h : s.power = .running) :
    exec (.readTransaction p n) s = .next (modifyPort p (readTransactionOn n) s) := by
  change execReadTransaction p n s = _
  obtain ⟨k, rfl⟩ := Nat.exists_eq_add_of_lt hn
  simp [execReadTransaction, h]

theorem readTransactionOn_empty {x : PortState} (h : x.slot = none) :
    readTransactionOn n x = { x with dataOut := shiftedOut [] n } := by
  rw [readTransactionOn, h]

/-- R185: the slot is emptied once the first byte and the whole frame were clocked. -/
theorem readTransactionOn_waiting {x : PortState} {frame : List Byte} (hn : 0 < n) (h : x.slot = some frame) :
    readTransactionOn n x =
      { x with dataOut := shiftedOut frame n, slot := if frame.length + 1 ≤ n then none else some frame } := by
  have hwhole : frame.length ≤ n - 1 ↔ frame.length + 1 ≤ n := by omega
  simp only [readTransactionOn, h, hwhole]

end

/-- R181: the bytes of a reply frame before its check byte. -/
theorem replyFrame_eq (code : Nat) (c : ReplyCode) (slot : Option (List Byte)) (payload : List Byte) :
    ∃ check : Byte, replyFrame code c slot.isSome payload =
      [BitVec.ofNat 8 (payload.length + 5), BitVec.ofNat 8 code, BitVec.ofNat 8 c.code,
        if slot = none then 0 else 1] ++ payload ++ [check] := by
  cases slot <;> exact ⟨_, rfl⟩

@[simp] theorem byteSum_replyFrame (code : Nat) (c : ReplyCode) (unread : Bool) (payload : List Byte) :
    byteSum (replyFrame code c unread payload) = 0 := Laws.byteSum_append_checkByte _

/-- Settles O56: the read transaction case by case, the reply by `replyFrame_eq` and `byteSum_replyFrame`, and the two refusals
as what they do on a running part. -/
theorem transactionsAndReplies : Obligations.TransactionsAndReplies := by
  refine ⟨fun p n s => ⟨execReadTransaction_idle, execReadTransaction_held, fun hn hrun hslot => ?_,
    fun frame hn hrun hslot => ?_⟩, fun p code c payload s _ => ?_, fun p code s hrun => ?_, fun p code s hrun => ?_⟩
  · rw [execReadTransaction_running hn hrun, modifyPort, readTransactionOn_empty hslot]
    rfl
  · rw [execReadTransaction_running hn hrun, modifyPort, readTransactionOn_waiting hn hslot]
    rfl
  · obtain ⟨check, hframe⟩ := replyFrame_eq code c (s.ports.get p).slot payload
    refine ⟨check, ?_, ?_, by simp⟩
    · rw [← hframe]
      rfl
    · rw [← hframe]
      exact byteSum_replyFrame ..
  · change execBadFrame p code s = _
    rw [execBadFrame, writeTransaction_running _ _ _ hrun]
    rfl
  · exact writeTransaction_running p _ s hrun

end Sys2Proof.Machine

namespace Sys2Proof.Machine

/-! ### The factory state of a blank store (R196 to R198) -/

/-- R10, R17, R198: every slot of a blank rack is empty, its sensing off, its state UNKNOWN. -/
theorem blankRack_slots {x : Slot} (hx : x ∈ blankRack.slots) :
    x.occupant = none ∧ x.sensing = false ∧ x.sensed = .unknown ∧ x.discrepancy = false := by
  rw [show x = blankSlot from List.eq_of_mem_replicate hx]
  exact ⟨rfl, rfl, rfl, rfl⟩

/-- R128: a multiplier is 1,000 until one is written. -/
theorem blankMeter_multipliers {m : Nat} (hm : m ∈ blankMeter.card.multipliers) : m = 1000 := List.eq_of_mem_replicate hm

/-- R176: every source starts with both flags clear. -/
theorem blankModes_flags (w : WakeSource) : blankModes.flags w = clearFlags := by cases w <;> rfl

/-- Settles O2: each block of the reset state is the blank block of its chapter, so a value written out holds by definition; the
lists and the wake table are uniform. -/
theorem resetHoldsFactoryState : Obligations.ResetHoldsFactoryState :=
  have hinterval : ∃ x, blankLog.intervals = [x] ∧ x.top = 0 ∧ x.posted = .bandB := ⟨freshInterval 0 .bandB, rfl, rfl, rfl⟩
  ⟨rfl, List.length_replicate,
    fun _ => blankRack_slots,
    rfl, rfl, rfl,
    rfl, rfl, rfl, rfl,
    rfl, rfl, rfl,
    rfl,
    rfl,
    rfl, rfl, rfl, rfl,
    rfl, rfl, rfl,
    hinterval,
    rfl, rfl,
    rfl, rfl,
    rfl, fun _ => blankMeter_multipliers,
    rfl, rfl,
    rfl, rfl,
    rfl,
    blankModes_flags, rfl, rfl⟩

/-- Settles O3: off or running, the sequence runs at once, and over a blank store it leaves the reset state. -/
theorem blankPowerOnGivesReset : Obligations.BlankPowerOnGivesReset := by
  intro s h
  rw [← powerUp_blank]
  rcases h with hoff | hrunning
  · simp [exec, execPowerOn, hoff]
  · simp [exec, execPowerOn, hrunning]

end Sys2Proof.Machine

namespace Sys2Proof.Machine

/-! ### OPEN JOB and CLOSE JOB (R194, R195) -/

/-- R194, check 3: what OPEN JOB may not carry. -/
theorem openJobOutOfRange_iff (number start interval : Nat) :
    openJobOutOfRange number start interval = true ↔
      ¬ (1 ≤ number ∧ number ≤ 65535 ∧ start ≤ 1500000 ∧ 500 ≤ interval ∧ interval ≤ 5000) := by
  simp only [openJobOutOfRange, Bool.or_eq_true, inRange_isNone, decide_eq_true_eq]
  omega

/-- R144: a ticket closed with none to follow is filed, and no more. -/
theorem closeOpenTicket_last {s : State} {ticket : Ticket} (reference : Nat) (h : s.meter.openTicket = some ticket) :
    closeOpenTicket reference false s = ticketFiled reference ticket s := by
  unfold closeOpenTicket
  simp only [h, priced_eq]
  rfl

/-- R195: the last ticket filed, and the job closed. -/
theorem closeJobTaken_eq {s : State} {ticket : Ticket} (reference : Nat) (h : s.meter.openTicket = some ticket) :
    closeJobTaken reference s =
      let filed := ticketFiled reference ticket s
      { filed with job := { filed.job with isOpen := false } } := by
  rw [closeJobTaken, closeOpenTicket_last reference h]
  rfl

/-- Settles O57: the checks of R194 and R195 one by one; then what OPEN JOB sets stands in `openJobTaken`, and the last ticket is
filed by `closeJobTaken_eq`. -/
theorem jobsOpenedAndClosed : Obligations.JobsOpenedAndClosed := by
  refine ⟨fun p number start interval s h => request_eq h ?openJob,
    fun p reference ticket s h hticket => request_eq h ?closeJob⟩
  case openJob =>
    refine settledBy_check (onlyFrom_record p) fun _ => ?_
    refine settledBy_check (onlyInSetup_iff s) fun _ => ?_
    refine settledBy_check (openJobOutOfRange_iff number start interval) fun _ => ?_
    refine settledBy_check Iff.rfl fun _ => ?_
    refine settledBy_check (by simp) fun _ => ?_
    exact settledBy_taken p 96 (openJobTaken number start interval s)
  case closeJob =>
    refine settledBy_check (onlyFrom_record p) fun _ => ?_
    refine settledBy_check (onlyInSetup_iff s) fun _ => ?_
    refine settledBy_check (by simp) fun hjob => ?_
    refine settledBy_check decide_eq_true_iff fun _ => ?_
    rw [settledBy_checked_nil, settledBy_taken, closeJobTaken_eq reference (hticket (by simpa using hjob))]

end Sys2Proof.Machine

namespace Sys2Proof.Machine

/-! ### Intervals that join (R105) -/

section
variable {h h' z : Nat} {x x' : Interval} {xs above below below' : List Interval}

/-- The depth at which what lies below an interval begins: the top of the next one, or the hole depth `h`. -/
def topBelow (h : Nat) (below : List Interval) : Nat := (below.head?.map Interval.top).getD h

/-- R105: intervals that join without gap or overlap down to the hole depth `h`, the drilled mm of each the length of its range. -/
def Joined (h : Nat) : List Interval → Prop
  | [] => True
  | x :: below =>
    x.base = below.head?.map Interval.top ∧ x.top ≤ topBelow h below ∧ x.drilledMm = topBelow h below - x.top ∧ Joined h below

theorem joined_cons : Joined h (x :: below) ↔
    x.base = below.head?.map Interval.top ∧ x.top ≤ topBelow h below ∧ x.drilledMm = topBelow h below - x.top ∧
      Joined h below := Iff.rfl

@[simp] theorem topBelow_nil (h : Nat) : topBelow h [] = h := rfl

@[simp] theorem topBelow_cons (h : Nat) (x : Interval) (below : List Interval) : topBelow h (x :: below) = x.top := rfl

theorem contiguous_iff (h : Nat) (xs : List Interval) : contiguous h xs = true ↔ xs ≠ [] ∧ Joined h xs := by
  induction xs with
  | nil => simp [contiguous]
  | cons x below ih =>
    cases below with
    | nil => simp [contiguous, Joined, and_assoc]
    | cons y below => simp [contiguous, joined_cons (x := x), ih, and_assoc]

/-- A part of the list exchanged for another that begins at the same depth leaves the part above it joined. -/
theorem Joined.replace (hs : Joined h (above ++ x :: below)) (htop : x'.top = x.top)
    (hj : Joined h (x :: below) → Joined h' (x' :: below')) : Joined h' (above ++ x' :: below') := by
  induction above with
  | nil => exact hj hs
  | cons a above ih =>
    rw [List.cons_append, joined_cons] at hs ⊢
    obtain ⟨hbase, hle, hmm, hrest⟩ := hs
    have hhead : (above ++ x' :: below').head?.map Interval.top = (above ++ x :: below).head?.map Interval.top := by
      cases above <;> simp [htop]
    have hbelow : topBelow h' (above ++ x' :: below') = topBelow h (above ++ x :: below) := by
      cases above <;> simp [htop]
    rw [hhead, hbelow]
    exact ⟨hbase, hle, hmm, ih hrest⟩

theorem Joined.suffix (hs : Joined h (above ++ below)) : Joined h below := by
  induction above with
  | nil => exact hs
  | cons a above ih =>
    rw [List.cons_append, joined_cons] at hs
    exact ih hs.2.2.2

/-- R105: no interval begins below the hole. -/
theorem Joined.top_le_hole (hs : Joined h (x :: below)) : x.top ≤ h := by
  induction below generalizing x with
  | nil => exact hs.2.1
  | cons y below ih => exact Nat.le_trans hs.2.1 (ih hs.2.2.2)

/-- R105: the tops of joined intervals do not rise. -/
theorem Joined.top_le_below (hs : Joined h (x :: below)) {y : Interval} (hy : y ∈ below) : x.top ≤ y.top := by
  induction below generalizing x with
  | nil => cases hy
  | cons w below ih =>
    rcases List.mem_cons.mp hy with rfl | hy
    · exact hs.2.1
    · exact Nat.le_trans hs.2.1 (ih hs.2.2.2 hy)

/-- R105: the interval found for a depth from the first top on: it begins at the depth or above, and the next one below the depth. -/
theorem Joined.found (hs : Joined h (x :: below)) (hz : x.top ≤ z) :
    ∃ above y rest, x :: below = above ++ y :: rest ∧ indexAt (x :: below) z = above.length ∧ y.top ≤ z ∧
      ∀ w ∈ rest, z < w.top := by
  induction below generalizing x with
  | nil => exact ⟨[], x, [], rfl, by simp [indexAt, hz], hz, by simp⟩
  | cons w below ih =>
    rcases Nat.lt_or_ge z w.top with habove | hreached
    · have hbelow : ∀ v ∈ w :: below, z < v.top :=
        List.forall_mem_cons.mpr ⟨habove, fun v hv => Nat.lt_of_lt_of_le habove (hs.2.2.2.top_le_below hv)⟩
      have hnone : (w :: below).filter (fun v => v.top ≤ z) = [] :=
        List.filter_eq_nil_iff.mpr fun v hv => by simpa using hbelow v hv
      exact ⟨[], x, w :: below, rfl, by simp [indexAt, hz, hnone], hz, hbelow⟩
    · obtain ⟨above, y, rest, heq, hindex, hy, hrest⟩ := ih hs.2.2.2 hreached
      refine ⟨x :: above, y, rest, by rw [heq]; rfl, ?_, hy, hrest⟩
      simp only [indexAt, List.filter_cons, hz, hreached, decide_true, if_true, List.length_cons] at hindex ⊢
      omega

end

/-! ### A log that covers the hole (R104, R105) -/

section
variable {start h h' z : Nat} {g g' : StrataLog} {x x' : Interval} {above below below' : List Interval}

theorem openInterval_of_append (hg : g.intervals = above ++ [x]) : openInterval g = x := by simp [openInterval, hg]

/-- What `LogCoversHole` says of the log of a job that starts at `start` with the hole at `h`. -/
structure LogCovers (start h : Nat) (g : StrataLog) : Prop where
  room : g.intervals.length ≤ Config.maxIntervals
  nonempty : g.intervals ≠ []
  joined : Joined h g.intervals
  head : ∀ x ∈ g.intervals.head?, x.top = start ∧ x.boundary = .confirmed
  candidate : ∀ c ∈ g.detector.candidate, (openInterval g).top ≤ c.top ∧ c.top + Config.segmentLength ≤ h

theorem logCoversHole_iff (s : State) : LogCoversHole s ↔
    s.log.intervals.length ≤ Config.maxIntervals ∧ (s.job.isOpen = true → s.job.start.isSome = true) ∧
      ∀ start ∈ s.job.start, ∃ h, s.depth.hole = some h ∧ LogCovers start h s.log := by
  refine and_congr_right fun hroom => and_congr_right' (forall₂_congr fun start _ => ?_)
  have hlog : ∀ h : Nat, (contiguous h s.log.intervals = true ∧
      (∀ x ∈ s.log.intervals.head?, x.top = start ∧ x.boundary = .confirmed) ∧
      ∀ c ∈ s.log.detector.candidate, (openInterval s.log).top ≤ c.top ∧ c.top + Config.segmentLength ≤ h) ↔
      LogCovers start h s.log := fun h => by
    rw [contiguous_iff]
    exact ⟨fun ⟨⟨hne, hjoined⟩, hhead, hcand⟩ => ⟨hroom, hne, hjoined, hhead, hcand⟩,
      fun ⟨_, hne, hjoined, hhead, hcand⟩ => ⟨⟨hne, hjoined⟩, hhead, hcand⟩⟩
  cases s.depth.hole with
  | none => simp
  | some h => simpa using hlog h

/-- The first interval begins at the start depth. -/
theorem LogCovers.exists_cons (hs : LogCovers start h g) : ∃ x below, g.intervals = x :: below ∧ x.top = start := by
  obtain ⟨x, below, hg⟩ := List.exists_cons_of_ne_nil hs.nonempty
  exact ⟨x, below, hg, (hs.head x (by simp [hg])).1⟩

theorem LogCovers.start_le_hole (hs : LogCovers start h g) : start ≤ h := by
  obtain ⟨x, below, hg, rfl⟩ := hs.exists_cons
  exact (hg ▸ hs.joined : Joined h (x :: below)).top_le_hole

/-- R105: the interval found for a depth from the start depth on, with those above and below it. -/
theorem LogCovers.found (hs : LogCovers start h g) (hz : start ≤ z) :
    ∃ above y below, g.intervals = above ++ y :: below ∧ indexAt g.intervals z = above.length ∧ y.top ≤ z ∧
      ∀ w ∈ below, z < w.top := by
  obtain ⟨x, below, hg, rfl⟩ := hs.exists_cons
  rw [hg]
  exact (hg ▸ hs.joined : Joined h (x :: below)).found hz

end

/-- Settles O43: the interval found begins at the depth or above; where it has a base, the next one begins there, below the depth. -/
theorem intervalFoundContainsDepth : Obligations.IntervalFoundContainsDepth := by
  intro z start s hs hstart hz
  obtain ⟨-, -, hcovers⟩ := (logCoversHole_iff s).mp hs
  obtain ⟨h, -, hlog⟩ := hcovers start hstart
  obtain ⟨above, x, below, hg, hindex, htop, hbelow⟩ := hlog.found hz
  refine ⟨x, by rw [hindex, hg]; simp, htop, fun base hbase => ?_⟩
  obtain ⟨hx, -⟩ := joined_cons.mp (hg ▸ hlog.joined : Joined h (above ++ x :: below)).suffix
  rw [hx, Option.mem_def, Option.map_eq_some_iff] at hbase
  obtain ⟨y, hy, rfl⟩ := hbase
  exact hbelow y (List.mem_of_mem_head? hy)

end Sys2Proof.Machine

namespace Sys2Proof.Machine

/-! ### A completed segment judged (R110, R113 to R115) -/

theorem meanRate_eq (x : Interval) : meanRate x = meanOf x := rfl

section
variable {g : StrataLog} {above : List Interval} {x : Interval}

theorem openIndex_of_append (hg : g.intervals = above ++ [x]) : openIndex g = above.length := by simp [openIndex, hg]

theorem modifyOpen_of_append (hg : g.intervals = above ++ [x]) (f : Interval → Interval) :
    modifyOpen f g = { g with intervals := above ++ [f x] } := by
  have hx : g.intervals[openIndex g]? = some x := by simp [openIndex_of_append hg, hg]
  rw [modifyOpen, modifyInterval_eq hx, openIndex_of_append hg, hg, List.set_append_right _ _ (Nat.le_refl _), Nat.sub_self]
  rfl

theorem kindAgainst_eq (ratio rate mean : Nat) : kindAgainst ratio rate mean = kindOfRate ratio rate mean := by
  simp only [kindAgainst, kindOfRate, isFast, isSlow, decide_eq_true_eq]

theorem recognises_iff (d : Detector) (rate : Nat) (c : Candidate) :
    recognises d rate c = true ↔ kindOfRate d.ratio rate c.mean = some c.kind := by
  rw [recognises, kindAgainst_eq, beq_iff_eq]

/-- R111, R113: a reference mean of 0 makes no candidate (log entry 34). -/
theorem newCandidate_eq (d : Detector) (top seconds rate : Nat) : newCandidate d top seconds rate =
    match d.reference with
    | none => none
    | some 0 => none
    | some m => (kindOfRate d.ratio rate m).map fun k => { top := top, seconds := seconds, kind := k, mean := m } := by
  unfold newCandidate usableMean
  rcases d.reference with _ | _ | m
  · rfl
  · rfl
  · simp only [kindAgainst_eq]

end

section
variable {s : State} {above : List Interval} {x : Interval}

/-- R114: a drill break recognised with room in the log. -/
theorem breakInterval_eq (c : Candidate) (e seconds : Nat) (hg : s.log.intervals = above ++ [x]) :
    let closed := closedAtBreak c.top (e - c.top) (c.seconds + seconds) x
    let opened := openedAtBreak c.top (e - c.top) (c.seconds + seconds) x
    breakInterval c e seconds s = raise .drillBreak (above.length + 1) c.top { s with log := { s.log with
      intervals := above ++ [closed, opened], detector := afterBreak s.log.detector (meanOf opened) } } := by
  intro closed opened
  have hlength : (above ++ [closed] ++ [opened]).length - 1 = above.length + 1 := by simp
  simp only [breakInterval, openInterval_of_append hg, modifyOpen_of_append hg, openIndex]
  rw [hlength, List.append_assoc]
  rfl

/-- R115: a drill break recognised with the log full. -/
theorem breakLogFull_eq (c : Candidate) (hg : s.log.intervals = above ++ [x]) :
    breakLogFull c s = raise .logFull above.length c.top { s with log := { s.log with
      intervals := above ++ [{ x with breakFlag := true }], detector := afterBreak s.log.detector (meanOf x) } } := by
  have hlength : (above ++ [{ x with breakFlag := true }]).length - 1 = above.length := by simp
  have hopen : openInterval { s.log with intervals := above ++ [{ x with breakFlag := true }] } = { x with breakFlag := true } :=
    openInterval_of_append rfl
  simp only [breakLogFull, modifyOpen_of_append hg, openIndex, raise_frame, State.setLog_log, hopen]
  rw [hlength]
  rfl

/-- R113: a segment of the OPEN interval that ends no candidate of its own kind makes a candidate, or clears the one held. -/
def segmentWeighed (top seconds rate : Nat) (x : Interval) (s : State) : State :=
  { s with log := { s.log with detector := { s.log.detector with
    candidate := newCandidate s.log.detector top seconds rate, reference := meanOf x } } }

/-- R113 to R115: a segment of the OPEN interval `x` judged. -/
theorem judgeSegment_eq (top e seconds rate : Nat) {d : Detector} (hd : s.log.detector = d)
    (hg : s.log.intervals = above ++ [x]) :
    judgeSegment top e seconds rate s =
      if d.mode = .off ∨ d.armed = false then
        { s with log := { s.log with detector := { d with candidate := none, reference := meanOf x } } }
      else match d.candidate with
        | some c =>
          if kindOfRate d.ratio rate c.mean = some c.kind then
            if above.length + 1 < Config.maxIntervals then breakInterval c e seconds s else breakLogFull c s
          else segmentWeighed top seconds rate x s
        | none => segmentWeighed top seconds rate x s := by
  have hlength : s.log.intervals.length = above.length + 1 := by simp [hg]
  subst hd
  simp only [judgeSegment, openInterval_of_append hg, recognises_iff, hlength]
  rfl

/-- R110: a completed segment counted in its interval. -/
theorem segmentHeld_eq {e : Nat} (hx : s.log.intervals[indexAt s.log.intervals (e - 250)]? = some x) :
    segmentHeld e s = { s with log := { s.log with
      intervals := s.log.intervals.set (indexAt s.log.intervals (e - 250)) { x with segments := x.segments + 1 },
      lastSegment := some { top := e - 250, seconds := s.log.segmentSeconds, rate := 15000 / max 1 s.log.segmentSeconds } } } := by
  simp only [segmentHeld, Config.segmentLength, modifyInterval_eq hx]
  rfl

end

/-- Settles O46: the segment held and judged (`completeSegment_eq`, `segmentHeld_eq`), the detector case by case (`judgeSegment_eq`), a
drill break with room in the log and without (`breakInterval_eq`, `breakLogFull_eq`). -/
theorem segmentsCompletedAndJudged : Obligations.SegmentsCompletedAndJudged := by
  refine ⟨fun e x s hx => ?completed, fun top e seconds rate x above s hg => ?judged⟩
  case completed =>
    intro n rate ended judged
    have hn : n < s.log.intervals.length := (List.getElem?_eq_some_iff.mp hx).1
    have hopen : n = openIndex ended.log ↔ n + 1 = s.log.intervals.length := by
      simp only [openIndex, ended, List.length_set]
      omega
    have hjudged : segmentJudged e s = judged := by
      simp only [segmentJudged, segmentHeld_eq hx]
      exact ite_congr (propext hopen) (fun _ => rfl) fun _ => rfl
    rw [completeSegment_eq, hjudged]
    rfl
  case judged =>
    intro d made disarmed
    have hmade : made = newCandidate d top seconds rate := (newCandidate_eq ..).symm
    rw [judgeSegment_eq top e seconds rate (d := d) rfl hg, hmade]
    refine ite_congr rfl (fun _ => rfl) fun _ => ?_
    cases d.candidate with
    | none => rfl
    | some c =>
      refine ite_congr rfl (fun _ => ite_congr rfl (fun _ => ?room) fun _ => ?full) fun _ => rfl
      case room => exact breakInterval_eq c e seconds hg
      case full => exact breakLogFull_eq c hg

end Sys2Proof.Machine

namespace Sys2Proof.Machine

/-! ### Edits of a log that covers the hole -/

section
variable {start h h' : Nat} {g g' : StrataLog} {x x' y : Interval} {above below below' : List Interval}

/-- A log with the same intervals, and no candidate that was not there. -/
theorem LogCovers.congr (hs : LogCovers start h g) (hg : g'.intervals = g.intervals)
    (hcand : ∀ c ∈ g'.detector.candidate, c ∈ g.detector.candidate) : LogCovers start h g' where
  room := hg ▸ hs.room
  nonempty := hg ▸ hs.nonempty
  joined := hg ▸ hs.joined
  head := hg ▸ hs.head
  candidate c hc := by
    have hopen : openInterval g' = openInterval g := by rw [openInterval, openInterval, hg]
    rw [hopen]
    exact hs.candidate c (hcand c hc)

/-- The intervals from `x` down exchanged for others that begin where `x` begins. -/
theorem LogCovers.replace (hs : LogCovers start h g) (hg : g.intervals = above ++ x :: below)
    (hg' : g'.intervals = above ++ x' :: below') (hroom : g'.intervals.length ≤ Config.maxIntervals) (htop : x'.top = x.top)
    (hboundary : x.boundary = .confirmed → x'.boundary = .confirmed)
    (hj : Joined h (x :: below) → Joined h' (x' :: below'))
    (hcand : ∀ c ∈ g'.detector.candidate, (openInterval g').top ≤ c.top ∧ c.top + Config.segmentLength ≤ h') :
    LogCovers start h' g' where
  room := hroom
  nonempty := by simp [hg']
  joined := hg' ▸ (hg ▸ hs.joined : Joined h (above ++ x :: below)).replace htop hj
  head := by
    have hhead := hs.head
    rw [hg] at hhead
    rw [hg']
    cases above with
    | nil =>
      obtain ⟨hx, hconfirmed⟩ := hhead x rfl
      rintro _ ⟨⟩
      exact ⟨htop.trans hx, hboundary hconfirmed⟩
    | cons a above => exact hhead
  candidate := hcand

/-- A change of one interval that leaves its range, and a CONFIRMED boundary. -/
structure KeepsRange (f : Interval → Interval) : Prop where
  top : ∀ x, (f x).top = x.top
  base : ∀ x, (f x).base = x.base
  drilled : ∀ x, (f x).drilledMm = x.drilledMm
  boundary : ∀ x, x.boundary = .confirmed → (f x).boundary = .confirmed

theorem KeepsRange.joined {f : Interval → Interval} (hf : KeepsRange f) (hs : Joined h (x :: below)) :
    Joined h (f x :: below) := by
  rw [joined_cons, hf.base, hf.top, hf.drilled]
  exact hs

/-- The OPEN interval is the last of those from any one on. -/
theorem openInterval_of_suffix (hg : g.intervals = above ++ below) (hne : below ≠ []) :
    openInterval g = below.getLast hne := by
  rw [openInterval, hg, List.getLast?_append_of_ne_nil _ hne, List.getLast?_eq_some_getLast hne, Option.getD_some]

theorem openTop_of_replaced (hg : g.intervals = above ++ x :: below) (hg' : g'.intervals = above ++ x' :: below)
    (htop : x'.top = x.top) : (openInterval g').top = (openInterval g).top := by
  rw [openInterval_of_suffix hg (List.cons_ne_nil x below), openInterval_of_suffix hg' (List.cons_ne_nil x' below)]
  cases below with
  | nil => exact htop
  | cons y below => rfl

theorem openTop_modifyInterval {f : Interval → Interval} (hf : KeepsRange f) (n : Nat) (g : StrataLog) :
    (openInterval (modifyInterval n f g)).top = (openInterval g).top := by
  rcases Nat.lt_or_ge n g.intervals.length with hn | hn
  · obtain ⟨above, x, below, hg, -, hg'⟩ := List.exists_of_modify f hn
    exact openTop_of_replaced (g' := modifyInterval n f g) hg hg' (hf.top x)
  · rw [modifyInterval, List.modify_eq_self hn]

/-- One interval changed within its range. -/
theorem LogCovers.modify {f : Interval → Interval} (hf : KeepsRange f) (n : Nat) (hs : LogCovers start h g) :
    LogCovers start h (modifyInterval n f g) := by
  rcases Nat.lt_or_ge n g.intervals.length with hn | hn
  · obtain ⟨above, x, below, hg, -, hg'⟩ := List.exists_of_modify f hn
    refine hs.replace hg hg' (by simpa [modifyInterval] using hs.room) (hf.top x) (hf.boundary x) hf.joined fun c hc => ?_
    rw [openTop_modifyInterval hf]
    exact hs.candidate c hc
  · rwa [modifyInterval, List.modify_eq_self hn]

/-- R105: the log ends in the OPEN interval, which reaches down to the hole. -/
theorem LogCovers.exists_open (hs : LogCovers start h g) :
    ∃ above x, g.intervals = above ++ [x] ∧ x.base = none ∧ x.top ≤ h ∧ x.drilledMm = h - x.top := by
  obtain ⟨above, x, hg⟩ := (List.eq_nil_or_concat' g.intervals).resolve_left hs.nonempty
  obtain ⟨hbase, htop, hmm, -⟩ := joined_cons.mp (hg ▸ hs.joined : Joined h (above ++ [x])).suffix
  exact ⟨above, x, hg, hbase, htop, hmm⟩

end

/-! ### New hole, segment by segment (R108, R110, R114) -/

section
variable {start a b e : Nat} {s : State}

/-- R108: the hole deepened from `a` by a length that the OPEN interval takes. -/
theorem addDrilled_covers (hab : a ≤ b) (hs : LogCovers start a s.log) : LogCovers start b (addDrilled (b - a) s).log := by
  obtain ⟨above, x, hg, hbase, htop, hmm⟩ := hs.exists_open
  have hg' : (addDrilled (b - a) s).log.intervals = above ++ [{ x with drilledMm := x.drilledMm + (b - a) }] := by
    rw [addDrilled, State.setLog_log, modifyOpen_of_append hg]
  refine hs.replace hg hg' (by simpa [hg, hg'] using hs.room) rfl id (fun _ => ?_) fun c hc => ?_
  · exact ⟨hbase, Nat.le_trans htop hab, by simp only [topBelow_nil]; omega, trivial⟩
  · obtain ⟨habove, hwithin⟩ := hs.candidate c hc
    rw [openTop_of_replaced hg hg' rfl]
    exact ⟨habove, Nat.le_trans hwithin hab⟩

/-- R114: the OPEN interval cut at the top of the candidate, which gives up the mm below it. -/
theorem breakInterval_covers {c : Candidate} (seconds : Nat) (hroom : s.log.intervals.length < Config.maxIntervals)
    (hc : c ∈ s.log.detector.candidate) (hs : LogCovers start e s.log) : LogCovers start e (breakInterval c e seconds s).log := by
  obtain ⟨above, x, hg, hbase, htop, hmm⟩ := hs.exists_open
  obtain ⟨habove, hwithin⟩ := hs.candidate c hc
  rw [openInterval_of_append hg] at habove
  simp only [Config.segmentLength] at hwithin
  rw [breakInterval_eq c e seconds hg]
  refine hs.replace hg rfl (by simpa [hg, Nat.succ_le_iff] using hroom) rfl (fun _ => rfl) (fun _ => ?_) (by rintro _ ⟨⟩)
  refine ⟨rfl, habove, ?_, rfl, ?_, ?_, trivial⟩
  · simp only [closedAtBreak, topBelow_cons, openedAtBreak]
    omega
  · simp only [topBelow_nil, openedAtBreak]
    omega
  · rfl

theorem breakLogFull_covers (c : Candidate) (hs : LogCovers start e s.log) :
    LogCovers start e (breakLogFull c s).log := by
  obtain ⟨above, x, hg, -⟩ := hs.exists_open
  rw [breakLogFull_eq c hg]
  exact hs.replace hg rfl (by simpa [hg] using hs.room) rfl id id (by rintro _ ⟨⟩)

/-- R113: a candidate is the segment that has just been completed. -/
theorem top_of_newCandidate {d : Detector} {top seconds rate : Nat} {c : Candidate}
    (h : newCandidate d top seconds rate = some c) : c.top = top := by
  unfold newCandidate at h
  split at h
  · obtain ⟨k, -, rfl⟩ := Option.map_eq_some_iff.mp h
    rfl
  · cases h

/-- R113: a segment weighed makes no candidate but itself. -/
theorem segmentWeighed_covers {top seconds rate : Nat} {x : Interval} (hopen : (openInterval s.log).top ≤ top)
    (hend : top + Config.segmentLength ≤ e) (hs : LogCovers start e s.log) :
    LogCovers start e (segmentWeighed top seconds rate x s).log where
  room := hs.room
  nonempty := hs.nonempty
  joined := hs.joined
  head := hs.head
  candidate c hc := by
    rw [top_of_newCandidate hc]
    exact ⟨hopen, hend⟩

/-- R113 to R115: a segment of the OPEN interval judged, which ends at the hole or above it. -/
theorem judgeSegment_covers {top seconds rate : Nat} (hopen : (openInterval s.log).top ≤ top)
    (hend : top + Config.segmentLength ≤ e) (hs : LogCovers start e s.log) :
    LogCovers start e (judgeSegment top e seconds rate s).log := by
  obtain ⟨above, x, hg, -⟩ := hs.exists_open
  rw [judgeSegment_eq top e seconds rate rfl hg]
  split
  · exact hs.congr rfl (by rintro _ ⟨⟩)
  · split
    next c hc =>
      split
      · split
        next hroom => exact breakInterval_covers seconds (by simpa [hg] using hroom) hc hs
        next => exact breakLogFull_covers c hs
      · exact segmentWeighed_covers hopen hend hs
    next => exact segmentWeighed_covers hopen hend hs

theorem segmentCounted_keepsRange : KeepsRange fun x => { x with segments := x.segments + 1 } :=
  ⟨fun _ => rfl, fun _ => rfl, fun _ => rfl, fun _ => id⟩

theorem openTop_segmentHeld (e : Nat) (s : State) : (openInterval (segmentHeld e s).log).top = (openInterval s.log).top :=
  openTop_modifyInterval segmentCounted_keepsRange _ s.log

theorem segmentHeld_covers (hs : LogCovers start e s.log) : LogCovers start e (segmentHeld e s).log :=
  (hs.modify segmentCounted_keepsRange _).congr rfl fun _ hc => hc

/-- R105, R110: where the interval found for a depth is the OPEN one, it begins at that depth or above. -/
theorem openTop_le_of_indexAt {g : StrataLog} {z : Nat} (hs : LogCovers start e g) (hz : start ≤ z)
    (hopen : indexAt g.intervals z = openIndex g) : (openInterval g).top ≤ z := by
  obtain ⟨above, x, below, hg, hindex, htop, -⟩ := hs.found hz
  have hlast : below = [] := by
    rw [hindex, openIndex, hg, List.length_append, List.length_cons] at hopen
    exact List.length_eq_zero_iff.mp (by omega)
  subst hlast
  rwa [openInterval_of_append hg]

theorem completeSegment_covers (he : start + Config.segmentLength ≤ e) (hs : LogCovers start e s.log) :
    LogCovers start e (completeSegment e s).log := by
  have hheld := segmentHeld_covers hs
  have hjudged : LogCovers start e (segmentJudged e s).log := by
    unfold segmentJudged
    simp only
    split
    next hopen =>
      have hlength : openIndex (segmentHeld e s).log = openIndex s.log := by
        simp [openIndex, segmentHeld, modifyInterval]
      refine judgeSegment_covers ?_ (by omega) hheld
      rw [openTop_segmentHeld]
      exact openTop_le_of_indexAt hs (by omega) (hopen.trans hlength)
    next => exact hheld
  exact hjudged.congr rfl fun _ hc => hc

/-- R108: an increment worked through its segment ends. -/
theorem logIncrement_covers {b : Nat} (ends : List Nat) (hends : ∀ e ∈ ends, start + Config.segmentLength ≤ e ∧ e ≤ b)
    (hascending : (a :: ends).Pairwise (· ≤ ·)) (hab : a ≤ b) (hs : LogCovers start a s.log) :
    LogCovers start b (logIncrement a b ends s).log := by
  induction ends generalizing a s with
  | nil => exact addDrilled_covers hab hs
  | cons e ends ih =>
    obtain ⟨hfirst, hrest⟩ := List.forall_mem_cons.mp hends
    obtain ⟨hle, htail⟩ := List.pairwise_cons.mp hascending
    refine ih hrest htail hfirst.2 (completeSegment_covers hfirst.1 ?_)
    exact addDrilled_covers (hle e List.mem_cons_self) hs

/-- R108: an increment of a job that starts at `start`, handed over with the hole at `a`. -/
theorem logIncrement_segmentEnds_covers {b : Nat} (hab : a ≤ b) (hs : LogCovers start a s.log) :
    LogCovers start b (logIncrement a b (segmentEnds start a b) s).log := by
  have hstart := hs.start_le_hole
  have hends : ∀ e ∈ segmentEnds start a b, a < e ∧ e ≤ b ∧ (e - start) % 250 = 0 := fun e he => (mem_segmentEnds hstart).mp he
  refine logIncrement_covers _ (fun e he => ?_) ?_ hab hs
  · obtain ⟨ha, hb, hwhole⟩ := hends e he
    exact ⟨by simp only [Config.segmentLength]; omega, hb⟩
  · refine List.pairwise_cons.mpr ⟨fun e he => Nat.le_of_lt (hends e he).1, ?_⟩
    exact (segmentEnds_ascending start a b).imp Nat.le_of_lt

end
end Sys2Proof.Machine

namespace Sys2Proof.Machine

/-! ### MERGE and SPLIT on the log (R120, R121) -/

section
variable {g : StrataLog} {upper lower x : Interval} {i d : Nat}

theorem joined_eq (upper lower : Interval) : joined upper lower = mergedInterval upper lower := by
  have hstrike : (if upper.strike.isSome = true then upper.strike else lower.strike) = upper.strike.or lower.strike := by
    cases upper.strike <;> rfl
  simp only [joined, mergedInterval, hstrike, satAdd]
  rfl

/-- R120, R121: an edit of the OPEN interval settles the detector on the interval that it leaves. -/
theorem settleDetector_of_append {above : List Interval} (hg : g.intervals = above ++ [x]) :
    settleDetector g = { g with detector := { g.detector with candidate := none, reference := meanOf x } } := by
  rw [settleDetector, openInterval_of_append hg, meanRate_eq]
  rfl

/-- R120: an interval joined with the one below it. -/
theorem mergeLog_eq (hu : g.intervals[i]? = some upper) (hl : g.intervals[i + 1]? = some lower) :
    mergeLog (i + 1) g = { g with
      intervals := g.intervals.take i ++ mergedInterval upper lower :: g.intervals.drop (i + 2),
      detector := editedDetector (i + 2 = g.intervals.length) (mergedInterval upper lower) g.detector } := by
  obtain ⟨hi, -⟩ := List.getElem?_eq_some_iff.mp hu
  obtain ⟨hi', -⟩ := List.getElem?_eq_some_iff.mp hl
  have hmerged : (g.intervals.modify i fun u => joined u lower).eraseIdx (i + 1) =
      g.intervals.take i ++ mergedInterval upper lower :: g.intervals.drop (i + 2) := by
    rw [modify_eq_set_of_getElem? hu, joined_eq, List.set_eq_take_append_cons_drop, if_pos hi,
      List.eraseIdx_append_of_length_le (by simp), List.length_take_of_le (by omega), Nat.add_sub_cancel_left]
    simp
  unfold mergeLog editedDetector
  simp only [intervalAt_eq hl, Nat.add_sub_cancel, hmerged]
  by_cases hopen : i + 2 = g.intervals.length
  · have hnone : g.intervals.drop (i + 2) = [] := List.drop_eq_nil_iff.mpr (Nat.le_of_eq hopen.symm)
    rw [if_pos (by simp only [openIndex]; omega), if_pos hopen, settleDetector_of_append (by rw [hnone])]
  · rw [if_neg (by simp only [openIndex]; omega), if_neg hopen]

/-! The segments above a split -/

theorem length_filter_range_between (a b n : Nat) :
    ((List.range n).filter fun i => a ≤ i ∧ i < b).length = min b n - min a n := by
  induction n with
  | zero => simp
  | succ n ih =>
    rw [List.range_succ, List.filter_append, List.length_append, ih]
    by_cases hn : a ≤ n ∧ n < b
    · simp only [List.filter_cons, List.filter_nil, decide_eq_true hn, if_true, List.length_singleton]
      omega
    · simp only [List.filter_cons, List.filter_nil, decide_eq_false hn, Bool.false_eq_true, if_false, List.length_nil]
      omega

/-- R121: the completed segments counted by their tops. -/
theorem segmentsAbove_eq (start hole top d : Nat) : segmentsAbove start hole top d =
    (((List.range ((hole - start) / 250)).map fun i => start + 250 * i).filter fun z => top ≤ z ∧ z < d).length := by
  have hbetween : ((fun z => decide (top ≤ z ∧ z < d)) ∘ fun i => start + 250 * i) =
      fun i => decide (ceilDiv (top - start) 250 ≤ i ∧ i < ceilDiv (d - start) 250) :=
    funext fun i => decide_eq_decide.mpr (by simp only [ceilDiv]; omega)
  rw [List.filter_map, List.length_map, hbetween, length_filter_range_between]
  rfl

theorem strikeWhere_eq (c : Nat → Bool) (x : Interval) : strikeWhere c x = x.strike.filter fun w => c w.depth := by
  unfold strikeWhere
  cases x.strike <;> rfl

theorem upperPart_eq (d k : Nat) (x : Interval) : upperPart d k x = splitUpper d k x := by
  simp only [upperPart, splitUpper, strikeWhere_eq]

theorem lowerPart_eq (d k : Nat) (x : Interval) : lowerPart d k x = splitLower d k x := by
  simp only [lowerPart, splitLower, strikeWhere_eq]

/-- R121: the interval found at a depth replaced by its two parts. -/
theorem splitLog_eq (start hole : Nat) (hx : g.intervals[indexAt g.intervals d]? = some x) :
    splitLog start hole d g =
      (let n := indexAt g.intervals d
       let k := segmentsAbove start hole x.top d
       { g with
        intervals := g.intervals.take n ++ splitUpper d k x :: splitLower d k x :: g.intervals.drop (n + 1),
        detector := editedDetector (n + 1 = g.intervals.length) (splitLower d k x) g.detector }) := by
  obtain ⟨hn, -⟩ := List.getElem?_eq_some_iff.mp hx
  unfold splitLog editedDetector
  simp only [intervalAt_eq hx, upperPart_eq, lowerPart_eq, List.append_assoc, List.cons_append, List.nil_append]
  by_cases hopen : indexAt g.intervals d + 1 = g.intervals.length
  · have hnone : g.intervals.drop (indexAt g.intervals d + 1) = [] := List.drop_eq_nil_iff.mpr (Nat.le_of_eq hopen.symm)
    rw [if_pos (by simp only [openIndex]; omega), if_pos hopen]
    exact settleDetector_of_append (by rw [hnone, ← List.append_cons])
  · rw [if_neg (by simp only [openIndex]; omega), if_neg hopen]

end

/-! ### Edit requests (R116) -/

section
variable {p : Port} {code index : Nat} {s next : State} {checks : List (Bool × ReplyCode)} {r : Response}

/-- R116: the first three checks of an edit, in order. -/
theorem settledBy_editChecks (h : s.job.isOpen = true → settledBy p code (checked checks s r) = next) :
    settledBy p code (checked (editChecks p s ++ checks) s r) = editOutcome p code s next := by
  refine settledBy_check (onlyFrom_record p) fun _ => ?_
  refine settledBy_check (by simp) fun _ => ?_
  exact settledBy_check (by simp) fun hopen => h (by simpa using hopen)

/-- R116: the four checks of an edit of a named interval, in order. -/
theorem settledBy_indexedChecks {edit : Interval → State}
    (h : ∀ x, s.log.intervals[index]? = some x → settledBy p code (checked checks s r) = edit x) :
    settledBy p code (checked (editChecks p s ++ noInterval index s :: checks) s r) =
      indexedOutcome p code index s edit := by
  refine settledBy_editChecks fun _ => ?_
  rw [noInterval, settledBy_checked_cons]
  cases hx : s.log.intervals[index]? with
  | none => exact if_pos (by simpa using List.getElem?_eq_none_iff.mp hx)
  | some x =>
    obtain ⟨hlt, -⟩ := List.getElem?_eq_some_iff.mp hx
    exact (if_neg (by simpa using hlt)).trans (h x hx)

end

/-- R120: MERGE of an index above 0 that names an interval. -/
theorem mergeTaken_eq {s : State} {i : Nat} {upper lower : Interval} (hu : s.log.intervals[i]? = some upper)
    (hl : s.log.intervals[i + 1]? = some lower) :
    mergeTaken (i + 1) s =
      (let band := upper.band.getD s.meter.card.defaultBand
       let paid := if band = lower.band.getD s.meter.card.defaultBand then s
                   else reband lower.top (lower.base.getD (holeDepth s)) lower.posted band s
       { paid with log := mergeLog (i + 1) s.log }) := by
  simp only [mergeTaken, Nat.add_sub_cancel, intervalAt_eq hu, intervalAt_eq hl, effectiveBand, bottomOf, State.setLog]
  split <;> simp only [reband_frame]

/-- Settles O45: the checks of R116 (`settledBy_indexedChecks`, `settledBy_editChecks`) and those of the request's own rule, then the
log by `mergeLog_eq` and `splitLog_eq`, with the segments counted by their tops (`segmentsAbove_eq`). -/
theorem mergeAndSplitIntervals : Obligations.MergeAndSplitIntervals := by
  refine ⟨fun p index s h => request_eq h ?merge, fun p depth start hole x s h hjob => request_eq h ?split⟩
  case merge =>
    refine settledBy_indexedChecks fun lower hl => ?_
    refine settledBy_check beq_iff_eq fun hindex => ?_
    obtain ⟨i, rfl⟩ := Nat.exists_eq_succ_of_ne_zero hindex
    obtain ⟨hlt, -⟩ := List.getElem?_eq_some_iff.mp hl
    have hu : s.log.intervals[i]? = some s.log.intervals[i] := List.getElem?_eq_getElem (by omega)
    simp only [Nat.succ_eq_add_one, Nat.add_sub_cancel, hu, settledBy_checked_nil, settledBy_taken, mergeTaken_eq hu hl,
      mergeLog_eq hu hl, List.append_assoc, List.singleton_append]
  case split =>
    refine settledBy_editChecks fun hopen => ?_
    obtain ⟨hstart, hhole, hx⟩ := hjob hopen
    have hfrom : startDepth s = start := by rw [startDepth, hstart, Option.getD_some]
    have hto : holeDepth s = hole := by rw [holeDepth, hhole, Option.getD_some]
    rw [hfrom, hto]
    refine settledBy_check (by simp [or_assoc]) fun _ => ?_
    refine settledBy_check decide_eq_true_iff fun _ => ?_
    simp only [settledBy_checked_nil, settledBy_taken, splitLog_eq start hole hx, segmentsAbove_eq, List.append_assoc,
      List.cons_append, List.nil_append]
    rfl

end Sys2Proof.Machine

namespace Sys2Proof.Machine

/-! ### Fields that may be absent (R182) -/

section
variable {α : Type} {value : Nat → Option α} {lo hi : Nat}

theorem readOptional_isNone (hvalue : ∀ v, (value v).isNone = true ↔ ¬ (lo ≤ v ∧ v ≤ hi)) (f : OptField) :
    (readOptional f value).isNone = true ↔ fieldRefused f lo hi := by
  obtain ⟨presence, v⟩ := f
  unfold readOptional fieldRefused
  rcases presence with _ | _ | presence
  · simp [switchOf]
  · simpa [switchOf] using hvalue v
  · simp [switchOf]

theorem readOptional_eq {f : OptField} {name : Nat → α} (hvalue : ∀ v, lo ≤ v → v ≤ hi → value v = some (name v))
    (h : ¬ fieldRefused f lo hi) : readOptional f value = some ((fieldValue f).map name) := by
  obtain ⟨presence, v⟩ := f
  unfold readOptional fieldValue
  unfold fieldRefused at h
  rcases presence with _ | _ | presence
  · rfl
  · have hv : lo ≤ v ∧ v ≤ hi := by simpa using h
    simp [switchOf, hvalue v hv.1 hv.2]
  · simp at h

theorem inRange_eq {v : Nat} (hlo : lo ≤ v) (hhi : v ≤ hi) : inRange lo hi v = some v := if_pos ⟨hlo, hhi⟩

end

/-- R117: what CLASSIFY refuses of its two fields. -/
theorem classifyRefused_iff (lithology band : OptField) :
    ((readOptional lithology lithologyOf).isNone || (readOptional band bandOf).isNone) = true ↔
      fieldRefused lithology 1 250 ∨ fieldRefused band 0 3 := by
  rw [Bool.or_eq_true]
  exact or_congr (readOptional_isNone (inRange_isNone 1 250) lithology)
    (readOptional_isNone (fun v => by rw [bandOf_isNone]; omega) band)

/-- R117, R118: CLASSIFY of an interval of the log. -/
theorem classifyTaken_eq {s : State} {index : Nat} {x : Interval} (hx : s.log.intervals[index]? = some x)
    (lithology : Option Nat) (band : Option Band) :
    classifyTaken index lithology band s =
      (let x := { x with lithology := lithology, band := band }
       reposted index x (x.band.getD s.meter.card.defaultBand)
        { s with log := { s.log with intervals := s.log.intervals.set index x } }) := by
  obtain ⟨hn, -⟩ := List.getElem?_eq_some_iff.mp hx
  rw [classifyTaken, modifyInterval_eq hx, postBand_eq (by simpa using hn)]
  simp only [State.setLog_log, List.getElem_set_self]
  rfl

/-- Settles O44: the checks of R116 and of the two fields; the classification and the call of R118 by `classifyTaken_eq`. -/
theorem classifyReclassifies : Obligations.ClassifyReclassifies := by
  refine fun p index lithology band s h =>
    ⟨fun hrefused => request_eq h (settledBy_indexedChecks fun x _ => ?refused),
      fun htaken => request_eq h (settledBy_indexedChecks fun x hx => ?taken)⟩
  case refused =>
    exact (settledBy_checked_cons ..).trans (if_pos ((classifyRefused_iff lithology band).mpr hrefused))
  case taken =>
    obtain ⟨hlithology, hband⟩ := not_or.mp htaken
    have hgiven : readOptional lithology lithologyOf = some ((fieldValue lithology).map id) :=
      readOptional_eq (fun _ => inRange_eq) hlithology
    have hnamed : readOptional band bandOf = some ((fieldValue band).map bandNamed) :=
      readOptional_eq (fun v _ hv => bandOf_named (by omega)) hband
    refine (settledBy_checked_cons ..).trans ((if_neg (mt (classifyRefused_iff lithology band).mp htaken)).trans ?_)
    rw [settledBy_checked_nil, settledBy_taken, hgiven, hnamed, Option.map_id, classifyTaken_eq hx]
    rfl

/-! ### SET DRILL BREAK and RE ARM (R112) -/

theorem detectorModeOf_isNone (v : Nat) : (detectorModeOf v).isNone = true ↔ 2 < v := by
  rcases v with _ | _ | _ | v <;> simp [detectorModeOf]

theorem detectorModeOf_named {v : Nat} (h : v ≤ 2) :
    (detectorModeOf v).getD .off = if v = 0 then .off else if v = 1 then .single else .continuous := by
  rcases v with _ | _ | _ | v
  case succ.succ.succ => omega
  all_goals rfl

/-- R123: what WATER STRIKE refuses of its depth and its yield. -/
theorem waterStrikeRefused_iff {s : State} {start hole : Nat} (hstart : s.job.start = some start)
    (hhole : s.depth.hole = some hole) (depth : Nat) (yieldRate : OptField) :
    (depth < startDepth s || holeDepth s < depth || (readOptional yieldRate (inRange 1 5000)).isNone) = true ↔
      depth < start ∨ hole < depth ∨ fieldRefused yieldRate 1 5000 := by
  simp only [Bool.or_eq_true, decide_eq_true_eq, readOptional_isNone (inRange_isNone 1 5000), startDepth, holeDepth, hstart,
    hhole, Option.getD_some, or_assoc]

/-- Settles O42: the checks of each request in order, and then one change of the detector or of one interval of the log. -/
theorem detectorConfirmAndStrikeRequests : Obligations.DetectorConfirmAndStrikeRequests := by
  refine ⟨⟨fun p mode ratio s h => request_eq h ?detector, fun p s h => request_eq h ?reArm⟩,
    fun p index s h => request_eq h (settledBy_indexedChecks fun x hx => ?confirm),
    fun p index s h => request_eq h (settledBy_indexedChecks fun x hx => ?clear),
    fun p depth start hole yieldRate x s h hjob => ⟨fun hgiven => ?strike, fun hrefused => ?noStrike⟩⟩
  case detector =>
    refine settledBy_check (onlyFrom_record p) fun _ => ?_
    refine settledBy_check (by rw [Bool.or_eq_true, inRange_isNone, detectorModeOf_isNone]; omega) fun hrange => ?_
    rw [settledBy_checked_nil, settledBy_taken, detectorModeOf_named (by omega)]
    rfl
  case reArm => exact settledBy_check (onlyFrom_record p) fun _ => settledBy_taken ..
  case confirm => rw [settledBy_checked_nil, settledBy_taken, modifyInterval_eq hx]; rfl
  case clear => rw [settledBy_checked_nil, settledBy_taken, modifyInterval_eq hx]; rfl
  case strike =>
    refine request_eq h (settledBy_editChecks fun hopen => ?_)
    obtain ⟨hstart, hhole, hx⟩ := hjob hopen
    have hyield : readOptional yieldRate (inRange 1 5000) = some ((fieldValue yieldRate).map id) :=
      readOptional_eq (fun _ => inRange_eq) fun hrefused => hgiven (.inr (.inr hrefused))
    refine (settledBy_checked_cons ..).trans ((if_neg (mt (waterStrikeRefused_iff hstart hhole ..).mp hgiven)).trans ?_)
    rw [settledBy_checked_nil, settledBy_taken, modifyInterval_eq hx, hyield, Option.map_id]
    rfl
  case noStrike =>
    refine request_eq h (settledBy_editChecks fun hopen => ?_)
    obtain ⟨hstart, hhole, -⟩ := hjob hopen
    exact (settledBy_checked_cons ..).trans (if_pos ((waterStrikeRefused_iff hstart hhole ..).mpr hrefused))

end Sys2Proof.Machine

namespace Sys2Proof.Machine

/-! ### A rebanding call on the lines and the totals (R140, R141) -/

section
variable {old new : Band}

/-- R140: the cents that the closed portion (p, q] brings, one rounded product for each tier that it reaches. -/
def rebandCents (card : RateCard) (old new : Band) (p q : Nat) : Int :=
  ((tierPieces p q).map (tierAdjustment card old new)).sum

/-- R140: the lines of a ticket with the closed portion (p, q] posted. -/
def adjustedLines (card : RateCard) (old new : Band) (p q : Nat) (ls : List Line) : List Line :=
  if q ≤ p then ls
  else
    updateLine (.adjustment old) (addQuantity (-((q - p : Nat) : Int)))
      (updateLine (.adjustment new)
        (fun l => { l with quantity := l.quantity + ((q - p : Nat) : Int), cents := l.cents + rebandCents card old new p q }) ls)

/-- R141: the lines of a ticket with some pieces moved between the FOOTAGE lines of two bands. -/
def movedLines (old new : Band) (pieces : List (Nat × Nat)) (ls : List Line) : List Line :=
  pieces.foldl (fun ls piece => updateLine (.footage new piece.1) (addQuantity piece.2)
    (updateLine (.footage old piece.1) (addQuantity (-(piece.2 : Int))) ls)) ls

/-- R141: the footage of the job totals with some pieces moved between the fields of two bands. -/
def movedTotals (old new : Band) (pieces : List (Nat × Nat)) (xs : List Nat) : List Nat :=
  pieces.foldl (fun xs piece => modifyAt (footageIndex new piece.1) (· + piece.2)
    (modifyAt (footageIndex old piece.1) (· - piece.2) xs)) xs

/-- The lines of the open ticket, if there is one, changed. -/
def withLines (f : List Line → List Line) (s : State) : State :=
  { s with meter := { s.meter with openTicket := s.meter.openTicket.map fun t => { t with lines := f t.lines } } }

/-- The footage of the job totals changed. -/
def withFootage (f : List Nat → List Nat) (s : State) : State :=
  { s with meter := { s.meter with totals := { s.meter.totals with footage := f s.meter.totals.footage } } }

theorem withLines_id (s : State) : withLines (fun ls => ls) s = s := by
  cases h : s.meter.openTicket <;> simp [withLines]

theorem withLines_withLines (f f' : List Line → List Line) (s : State) :
    withLines f' (withLines f s) = withLines (fun ls => f' (f ls)) s := by
  simp [withLines, Function.comp_def]

theorem updateOpenLine_withLines (k : LineKey) (f : Line → Line) (s : State) :
    updateOpenLine k f s = withLines (updateLine k f) s := updateOpenLine_eq k f s

theorem postAdjustment_eq (old new : Band) (p q : Nat) (s : State) :
    postAdjustment old new p q s = withLines (adjustedLines s.meter.card old new p q) s := by
  unfold postAdjustment adjustedLines
  split
  · exact (withLines_id s).symm
  · simp only [updateOpenLine_withLines, withLines_withLines]
    rfl

theorem foldl_moveFootage (pieces : List (Nat × Nat)) (s : State) :
    pieces.foldl (fun s piece => moveFootage old new piece s) s = withLines (movedLines old new pieces) s := by
  induction pieces generalizing s with
  | nil => exact (withLines_id s).symm
  | cons piece pieces ih =>
    rw [List.foldl_cons, ih]
    simp only [moveFootage, updateOpenLine_withLines, withLines_withLines]
    rfl

theorem foldl_moveTotals (pieces : List (Nat × Nat)) (s : State) :
    pieces.foldl (fun s piece => moveTotals old new piece s) s = withFootage (movedTotals old new pieces) s := by
  induction pieces generalizing s with
  | nil => rfl
  | cons piece pieces ih => exact ih _

/-- R140, R141: the lines of a ticket after a call for [u, bottom]: posted above the closed depth, moved below it. -/
def rebandedLines (card : RateCard) (old new : Band) (closedDepth u bottom : Nat) (ls : List Line) : List Line :=
  movedLines old new (tierPieces (max u closedDepth) bottom) (adjustedLines card old new u (min bottom closedDepth) ls)

/-- R140, R141: a rebanding call, in every state. -/
theorem reband_eq (top bottom : Nat) (old new : Band) (s : State) :
    reband top bottom old new s =
      (let u := max top (s.job.start.getD 0)
       withFootage (movedTotals old new (tierPieces u bottom))
        (withLines (rebandedLines s.meter.card old new s.meter.closedDepth u bottom) s)) := by
  simp only [reband, foldl_moveFootage, foldl_moveTotals, postAdjustment_eq, withLines_withLines]
  rfl

/-! #### What each key holds after the call -/

/-- R141: what some pieces moved from one band to another add to a key. -/
def netMoved (old new : Band) (k : LineKey) (pieces : List (Nat × Nat)) : Int :=
  (pieces.map fun x => (if .footage new x.1 = k then (x.2 : Int) else 0) - (if .footage old x.1 = k then (x.2 : Int) else 0)).sum

theorem quantity_movedLines (k : LineKey) (pieces : List (Nat × Nat)) (ls : List Line) :
    ((movedLines old new pieces ls).map (underKey k Line.quantity)).sum =
      (ls.map (underKey k Line.quantity)).sum + netMoved old new k pieces := by
  induction pieces generalizing ls with
  | nil => exact (Int.add_zero _).symm
  | cons piece pieces ih =>
    refine (ih _).trans ?_
    rw [quantity_updateLine_addQuantity, quantity_updateLine_addQuantity]
    simp only [netMoved, List.map_cons, List.sum_cons]
    split <;> split <;> omega

theorem cents_movedLines (k : LineKey) (pieces : List (Nat × Nat)) (ls : List Line) :
    ((movedLines old new pieces ls).map (underKey k Line.cents)).sum = (ls.map (underKey k Line.cents)).sum := by
  induction pieces generalizing ls with
  | nil => rfl
  | cons piece pieces ih =>
    exact (ih _).trans ((cents_updateLine_addQuantity ..).trans (cents_updateLine_addQuantity ..))

theorem netMoved_new (h : old ≠ new) (tier : Nat) (pieces : List (Nat × Nat)) :
    netMoved old new (.footage new tier) pieces = mmOf tier pieces := by
  induction pieces with
  | nil => rfl
  | cons piece pieces ih =>
    simp only [netMoved, mmOf, List.map_cons, List.sum_cons, Nat.cast_add] at ih ⊢
    rw [ih]
    by_cases htier : piece.1 = tier <;> simp [htier, h]

theorem netMoved_old (h : old ≠ new) (tier : Nat) (pieces : List (Nat × Nat)) :
    netMoved old new (.footage old tier) pieces = -(mmOf tier pieces : Int) := by
  induction pieces with
  | nil => rfl
  | cons piece pieces ih =>
    simp only [netMoved, mmOf, List.map_cons, List.sum_cons, Nat.cast_add] at ih ⊢
    rw [ih]
    by_cases htier : piece.1 = tier
    · simp [htier, h.symm]
      omega
    · simp [htier]

theorem netMoved_other {k : LineKey} {pieces : List (Nat × Nat)}
    (h : ∀ piece ∈ pieces, k ≠ .footage new piece.1 ∧ k ≠ .footage old piece.1) : netMoved old new k pieces = 0 := by
  refine List.sum_eq_zero fun n hn => ?_
  obtain ⟨piece, hpiece, rfl⟩ := List.mem_map.mp hn
  obtain ⟨hnew, hold⟩ := h piece hpiece
  simp [hnew.symm, hold.symm]

theorem quantity_adjustedLines (card : RateCard) (k : LineKey) (p q : Nat) (ls : List Line) :
    ((adjustedLines card old new p q ls).map (underKey k Line.quantity)).sum =
      (ls.map (underKey k Line.quantity)).sum + (if .adjustment new = k then ((q - p : Nat) : Int) else 0) -
        (if .adjustment old = k then ((q - p : Nat) : Int) else 0) := by
  unfold adjustedLines
  split
  next hempty => simp [Nat.sub_eq_zero_of_le hempty]
  next =>
    rw [quantity_updateLine_addQuantity, updateLine_sum (n := if .adjustment new = k then ((q - p : Nat) : Int) else 0)]
    · split <;> split <;> omega
    · simp [underKey, newLine]
    · intro l _ hl
      by_cases hk : .adjustment new = k <;> simp [underKey, hl, hk]

theorem rebandCents_empty {card : RateCard} {p q : Nat} (h : q ≤ p) : rebandCents card old new p q = 0 := by
  have hnone : tierPieces p q = [] := by
    refine List.filterMap_eq_nil_iff.mpr fun tier _ => if_neg ?_
    simp only [Config.tierHeight]
    omega
  rw [rebandCents, hnone]
  rfl

theorem cents_adjustedLines (card : RateCard) (k : LineKey) (p q : Nat) (ls : List Line) :
    ((adjustedLines card old new p q ls).map (underKey k Line.cents)).sum =
      (ls.map (underKey k Line.cents)).sum + if .adjustment new = k then rebandCents card old new p q else 0 := by
  unfold adjustedLines
  split
  next hempty => simp [rebandCents_empty hempty]
  next =>
    rw [cents_updateLine_addQuantity]
    refine updateLine_sum _ (by simp [underKey, newLine]) fun l _ hl => ?_
    by_cases hk : .adjustment new = k <;> simp [underKey, hl, hk]

/-- R140, R141: what a call adds to the quantity under a key. -/
theorem quantity_rebandedLines (card : RateCard) (k : LineKey) (closedDepth u bottom : Nat) (t : Ticket) :
    quantityOn k { t with lines := rebandedLines card old new closedDepth u bottom t.lines } =
      quantityOn k t + (if .adjustment new = k then ((min bottom closedDepth - u : Nat) : Int) else 0) -
        (if .adjustment old = k then ((min bottom closedDepth - u : Nat) : Int) else 0) +
        netMoved old new k (tierPieces (max u closedDepth) bottom) := by
  rw [quantityOn_eq, quantityOn_eq, rebandedLines, quantity_movedLines, quantity_adjustedLines]

/-- R140: what a call adds to the cents under a key. -/
theorem cents_rebandedLines (card : RateCard) (k : LineKey) (closedDepth u bottom : Nat) (t : Ticket) :
    centsOn k { t with lines := rebandedLines card old new closedDepth u bottom t.lines } =
      centsOn k t + if .adjustment new = k then rebandCents card old new u (min bottom closedDepth) else 0 := by
  rw [centsOn_eq, centsOn_eq, rebandedLines, cents_movedLines, cents_adjustedLines]

theorem netMoved_adjustment (b : Band) (pieces : List (Nat × Nat)) : netMoved old new (.adjustment b) pieces = 0 :=
  netMoved_other fun _ _ => by simp

/-! #### The cents, one rounded product for each tier -/

theorem roundHalfAway_eq (num : Int) : roundHalfAway num 1000000 = nearestSigned num := by
  have hround : ∀ n : Nat, roundHalfUp n 1000000 = nearest n 1000000 := fun n => roundHalfUp_even n 500000
  unfold roundHalfAway nearestSigned
  rw [hround]
  rcases Int.lt_or_le num 0 with hneg | hpos
  · rw [if_pos hneg, if_neg (Int.not_le.mpr hneg), show num.natAbs = (-num).toNat by omega]
  · rw [if_neg (Int.not_lt.mpr hpos), if_pos hpos, show num.natAbs = num.toNat by omega]

/-- R128: a measure summed over the pieces of (p, q] is summed over the tiers, if a tier that is not reached adds nothing. -/
theorem sum_tierPieces (f : Nat × Nat → Int) (hzero : ∀ tier, f (tier, 0) = 0) (p q : Nat) :
    ((tierPieces p q).map f).sum = ((List.range 8).map fun tier => f (tier, mmInTier tier p q)).sum := by
  have htiers : ∀ tiers : List Nat, ((tiers.filterMap (tierPiece p q)).map f).sum =
      (tiers.map fun tier => f (tier, mmInTier tier p q)).sum := fun tiers => by
    induction tiers with
    | nil => rfl
    | cons tier tiers ih =>
      rw [List.map_cons, List.sum_cons, ← ih, List.filterMap_cons]
      rcases Nat.eq_zero_or_pos (mmInTier tier p q) with hempty | hreached
      · have hnone : tierPiece p q tier = none := if_neg (mt Nat.sub_pos_of_lt (Nat.not_lt.mpr (Nat.le_of_eq hempty)))
        simp [hnone, hempty, hzero]
      · have hsome : tierPiece p q tier = some (tier, mmInTier tier p q) := if_pos (Nat.lt_of_sub_pos hreached)
        simp [hsome]
  exact htiers (List.range 8)

theorem rebandCents_eq (card : RateCard) (old new : Band) (p q : Nat) : rebandCents card old new p q =
    ((List.range 8).map fun tier => nearestSigned ((mmInTier tier p q : Int) *
      ((card.bandRates.getD new.code 0 : Int) - (card.bandRates.getD old.code 0 : Int)) *
      (card.multipliers.getD tier 0 : Int))).sum := by
  rw [rebandCents, sum_tierPieces]
  · simp only [tierAdjustment, roundHalfAway_eq]
  · intro tier
    simp [tierAdjustment, roundHalfAway_eq, nearestSigned, nearest]

/-! #### The footage of the job totals -/

theorem movedTotals_getElem? {pieces : List (Nat × Nat)} (hne : old ≠ new) (hpieces : ∀ piece ∈ pieces, piece.1 < 8)
    (other : Band) {tier : Nat} (htier : tier < 8) {xs : List Nat} (hxs : xs.length = 32) :
    (movedTotals old new pieces xs)[footageIndex other tier]? =
      xs[footageIndex other tier]?.map fun v => if other = new then v + mmOf tier pieces
        else if other = old then v - mmOf tier pieces else v := by
  induction pieces generalizing xs with
  | nil => simp [movedTotals, mmOf]
  | cons piece pieces ih =>
    obtain ⟨hfirst, hrest⟩ := List.forall_mem_cons.mp hpieces
    have hplace : ∀ b : Band, footageIndex b piece.1 < 32 := fun b => by
      have := band_code_lt b
      simp only [footageIndex]
      omega
    refine (ih hrest (by simp only [length_modifyAt, hxs])).trans ?_
    rw [modifyAt_getElem? _ _ _ _ (by simpa only [length_modifyAt, hxs] using hplace new),
      modifyAt_getElem? _ _ _ _ (by simpa only [hxs] using hplace old), Option.map_map, Option.map_map]
    refine congrFun (congrArg Option.map (funext fun v => ?_)) _
    simp only [Function.comp_apply, footageIndex_inj hfirst htier]
    by_cases hpiece : piece.1 = tier
    · by_cases hnew : other = new
      · subst hnew
        simp [hpiece, hne, mmOf, Nat.add_assoc]
      · by_cases hold : other = old
        · subst hold
          simp [hpiece, hne, hne.symm, mmOf, Nat.sub_sub]
        · simp [hnew, hold, Ne.symm hnew, Ne.symm hold]
    · simp [hpiece, mmOf]

end

/-- Settles O48: the call field by field (`reband_eq`); the lines by `quantity_rebandedLines` and `cents_rebandedLines`, tier by tier
through `mmOf_tierPieces`, and the totals by `movedTotals_getElem?`. -/
theorem rebandingByRule : Obligations.RebandingByRule := by
  refine ⟨fun top bottom old new s => by rw [reband_eq]; rfl,
    fun top bottom start old new ticket s hticket hstart hne _ hlength => ?_⟩
  intro u q v card change cents
  have hcall := reband_eq top bottom old new s
  simp only [hstart, Option.getD_some] at hcall
  rw [hcall]
  refine ⟨{ ticket with lines := rebandedLines card old new s.meter.closedDepth u bottom ticket.lines },
    by simp [withFootage, withLines, hticket, u, card], rfl, ?newMm, ?oldMm, ?newCents, fun k hk => ?otherCents,
    fun tier htier => ⟨?newFootage, ?oldFootage⟩, fun k hknew hkold hk => ?other, fun other tier htier => ?totals⟩
  case newMm => simp [quantity_rebandedLines, netMoved_adjustment, hne, q]
  case oldMm => simp [quantity_rebandedLines, netMoved_adjustment, hne.symm, q]
  case newCents => rw [cents_rebandedLines, if_pos rfl, rebandCents_eq]
  case otherCents => rw [cents_rebandedLines, if_neg hk.symm, Int.add_zero]
  case newFootage => simp [quantity_rebandedLines, netMoved_new hne, mmOf_tierPieces htier, v]
  case oldFootage => simp [quantity_rebandedLines, netMoved_old hne, mmOf_tierPieces htier, v, Int.sub_eq_add_neg]
  case other =>
    have hmoved : netMoved old new k (tierPieces (max u s.meter.closedDepth) bottom) = 0 :=
      netMoved_other fun piece hpiece => hk piece.1 (tier_lt_of_mem_tierPieces hpiece)
    simp [quantity_rebandedLines, hmoved, hknew.symm, hkold.symm]
  case totals =>
    rw [← mmOf_tierPieces htier]
    exact movedTotals_getElem? hne (fun _ => tier_lt_of_mem_tierPieces) other htier hlength

end Sys2Proof.Machine

namespace Sys2Proof.Machine

/-! ### Fields of the log's reads (R107, R125) -/

theorem candidateField_eq (c : Option Candidate) : optional 13 candidateBytes c =
    match c with
    | none => List.replicate 14 0
    | some c => [1] ++ num4 c.top ++ num4 c.seconds ++ (if c.kind = .fast then [0] else [1]) ++ num4 c.mean := by
  cases c with
  | none => rfl
  | some c =>
    have hkind : num1 c.kind.code = if c.kind = .fast then [0] else [1] := by cases c.kind <;> rfl
    simp only [optional, candidateBytes, hkind, List.append_assoc]
    rfl

theorem segmentField_eq (x : Option Segment) : optional 10 segmentBytes x =
    match x with
    | none => List.replicate 11 0
    | some x => [1] ++ num4 x.top ++ num4 x.seconds ++ num2 x.rate := by
  cases x <;> rfl

theorem strikeField_eq (x : Option Strike) : optional 8 strikeBytes x =
    match x with
    | none => List.replicate 9 0
    | some w => [1] ++ num4 w.depth ++ maybe num2 2 w.yieldRate ++ num1 w.source.code := by
  cases x with
  | none => rfl
  | some w =>
    change num1 1 ++ strikeBytes w = _
    rw [strikeBytes, optional_eq_maybe]
    simp only [List.append_assoc]
    rfl

theorem optional_code {α : Type} (width : Nat) (bytes : Nat → List Byte) (code : α → Nat) (v : Option α) :
    optional width (fun x => bytes (code x)) v = maybe bytes width (v.map code) := by
  cases v <;> rfl

theorem currentSegmentTop_eq (s : State) : currentSegmentTop s =
    match s.job.start, s.depth.hole with
    | some start, some hole => start + 250 * ((hole - start) / 250)
    | _, _ => Config.segmentTopBeforeFirstJob.toNat := rfl

/-- R107: the samples of an interval. -/
theorem membersOf_eq (samples : List Sample) (x : Interval) :
    membersOf samples x = samples.filter fun r => x.top ≤ r.origin ∧ ∀ base ∈ x.base, r.origin < base := by
  refine List.filter_congr fun r _ => ?_
  cases x.base <;> simp

/-- R104, R107, R125: the fields of READ INTERVAL. -/
theorem intervalBytes_eq {g : StrataLog} {n : Nat} {x : Interval} (hx : g.intervals[n]? = some x) :
    intervalBytes g n = intervalReply g n x := by
  obtain ⟨hn, -⟩ := List.getElem?_eq_some_iff.mp hx
  have hopen : n = openIndex g ↔ n + 1 = g.intervals.length := by
    rw [openIndex]
    omega
  have hstatus : num1 (statusByte g n) = if n + 1 = g.intervals.length then [0] else num1 x.boundary.code := by
    rw [statusByte, intervalAt_eq hx, apply_ite num1, ite_congr (propext hopen) (fun _ => rfl) fun _ => rfl]
    rfl
  simp only [intervalBytes, intervalAt_eq hx, hstatus, strikeField_eq, optional_eq_maybe, optional_code, membersOf_eq,
    meanRate_eq, flag]
  rfl

theorem sampleBytes_eq : sampleBytes = fun r =>
    num2 r.number ++ num4 r.origin ++ num1 r.status.code ++ num4 r.arrival ++ num1 r.caught.toNat := rfl

/-! ### Fields of the metering unit's reads (R147, R148, R184) -/

theorem optional_int4_eq (v : Option Int) : optional 4 int4 v = maybeSigned v := by cases v <;> rfl

theorem lineName_eq (k : LineKey) : num1 k.kindCode ++ k.bytes = lineName k := by
  cases k <;> rfl

theorem lineReply_eq (provisional : Bool) (amount : Option Int) (l : Line) :
    lineReply provisional amount l = lineBytesOf provisional amount l := by
  have htenths : num4 (tenthsOf l) = match l.key with
      | .time _ => num4 ((l.quantity.toNat + 359) / 360)
      | _ => num4 0 := by
    unfold tenthsOf
    cases l.key <;> rfl
  rw [lineReply, lineName_eq, htenths, optional_int4_eq]
  rfl

theorem ticketReply_eq (isOpen : Bool) (provisional : Option Int) (amount : Line → Option Int) (n : Nat) (t : Ticket) :
    headerBytes isOpen provisional t ++ counted (fun l => lineReply isOpen (amount l) l) (page (8 * n) 8 t.lines) =
      ticketReply isOpen provisional amount n t := by
  simp only [headerBytes, counted, page, ticketReply, lineReply_eq, optional_eq_maybe, optional_int4_eq, flag,
    List.append_assoc]

/-- R147: READ TICKET of the open ticket. -/
theorem execReadTicket_open {p : Port} {m : Nat} {s : State} (h : s.power = .running) (hm : m ≤ 6) :
    execReadTicket p 0 m s =
      match s.meter.openTicket with
      | none => readOutcome p 176 (some .noSuch) [] s
      | some t =>
        let amount := fun l : Line => (unlimitedAmount s.meter.card l).map limited
        readOutcome p 176 (if s.job.isOpen = true then none else some .noSuch)
          (ticketReply true (some (limited (t.lines.filterMap amount).sum)) amount m t) s := by
  have hpage : ¬ 6 < m := Nat.not_lt.mpr hm
  cases ht : s.meter.openTicket with
  | none => exact readRequest_eq_refused [] h (by decide) (by simp [hpage, noTicket, ht])
  | some t =>
    refine readRequest_eq h (by decide) ?_ ?_
    · cases hjob : s.job.isOpen <;> simp [hpage, noTicket, ht, hjob]
    · simp only [ticketBytes, if_pos, ht, Option.map_some, Option.getD_some, openTicketBytes, ticketReply_eq, rawTotal,
        amountOf_eq, limitAmount_eq]

/-- R147: READ TICKET of a closed ticket. -/
theorem execReadTicket_closed {p : Port} {n m : Nat} {s : State} (h : s.power = .running) (hm : m ≤ 6) (hn : n ≠ 0) :
    execReadTicket p n m s =
      match s.meter.closed.find? fun t => t.number == n with
      | none => readOutcome p 176 (some .noSuch) [] s
      | some t => readOutcome p 176 none (ticketReply false none Line.amount m t) s := by
  have hpage : ¬ 6 < m := Nat.not_lt.mpr hm
  cases ht : s.meter.closed.find? fun t => t.number == n with
  | none => exact readRequest_eq_refused [] h (by decide) (by simp [hpage, noTicket, hn, findClosed, ht])
  | some t =>
    refine readRequest_eq h (by decide) (by simp [hpage, noTicket, hn, findClosed, ht]) ?_
    simp only [ticketBytes, if_neg hn, findClosed, ht, Option.map_some, Option.getD_some, closedTicketBytes, ticketReply_eq]

theorem cardGroup_eq (n : Nat) (card : RateCard) : cardGroup n card =
    if n = 0 then card.bandRates.flatMap num4 ++ num1 card.defaultBand.code
    else if n = 1 then card.multipliers.flatMap num2
    else if n = 2 then card.hourly.flatMap num4 else card.prices.flatMap num4 := by
  rcases n with _ | _ | _ | n <;> rfl

/-- R148: the card is writable in SETUP with no priced line open. -/
theorem cardWritable_iff (s : State) : cardWritable s = true ↔ s.modes.mode = .setup ∧
    ¬ (s.job.isOpen = true ∧ ∃ t ∈ s.meter.openTicket, ∃ l ∈ t.lines, l.key ≠ .unwitnessed ∧ l.key ≠ .setup) := by
  rw [← pricedLineOpen_iff, cardWritable, Bool.and_eq_true, beq_iff_eq, Bool.not_eq_true', Bool.not_eq_true]

/-! ### Fields of the reads of notices, modes and the job (R162, R179, R199) -/

theorem noticeStatusBytes_eq (x : PortState) : noticeStatusBytes x =
    num1 x.queue.length ++
      (match x.queue with
      | [] => List.replicate 5 0
      | r :: _ => num1 1 ++ num1 r.level ++ num1 r.kind.code ++ num2 r.argA) ++
      num2 x.lost ++ filterBytes x.filter1 ++ filterBytes x.filter2 ++ (if x.queue = [] then [0] else [1]) := by
  rw [noticeStatusBytes, attention]
  cases x.queue with
  | nil => rfl
  | cons r rest =>
    simp only [optional, List.head?_cons, List.append_assoc]
    rfl

theorem pendingField_eq (request : Option PendingMode) :
    optional 2 (fun r : PendingMode => num1 r.target.code ++ num1 (portNumber r.origin)) request =
      match request with
      | none => [0, 0, 0]
      | some r => [1] ++ num1 r.target.code ++ num1 (portNumber r.origin) := by
  cases request <;> rfl

theorem sumBytes_eq (failing : Nat) : sumBytes failing = if failing = 0 then [1, 0, 0] else [0, 1] ++ num1 failing := by
  unfold sumBytes
  by_cases h : failing = 0
  · rw [if_pos h, if_pos h, h]
    rfl
  · rw [if_neg h, if_neg h, beq_false_of_ne h]
    rfl

/-- Settles O60: each read's own check and its fields, the bytes of a field by the lemmas above. -/
theorem logMeteringAndPartReads : Obligations.LogMeteringAndPartReads := by
  refine ⟨fun p s h => ?log,
    fun p n m s h => ⟨fun hn => ?noIndex, fun hn hlength => ?noInterval, fun x hn hx => ?interval, ?atDepth, ?samples,
      fun hm => ?noPage, fun hm => execReadTicket_open h hm, fun hm hn => execReadTicket_closed h hm hn, ?card, ?totals⟩,
    fun p s h => ⟨?status, ?levels, ?mode, ?port, ?job⟩⟩
  case log =>
    refine readRequest_eq h (by decide) rfl ?_
    dsimp only
    rw [candidateField_eq, segmentField_eq, optional_eq_maybe, currentSegmentTop_eq]
    rfl
  case noIndex => exact readRequest_eq_refused [] h (by decide) (by simp [hn])
  case noInterval => exact readRequest_eq_refused [] h (by decide) (by simp [Nat.not_lt.mpr hn, noInterval, hlength])
  case interval =>
    obtain ⟨hlt, -⟩ := List.getElem?_eq_some_iff.mp hx
    refine readRequest_eq h (by decide) ?_ (intervalBytes_eq hx)
    simp [Nat.not_lt.mpr hn, noInterval, Nat.not_le.mpr hlt]
  case atDepth => exact readRequest_eq h (by decide) rfl rfl
  case samples =>
    have hrange : (inRange 1 3200 n).isNone = true ↔ n = 0 ∨ 3200 < n := by
      rw [inRange_isNone]
      omega
    refine readRequest_eq h (by decide) ?_ ?_
    · simp [hrange]
    · simp only [sampleBytes_eq, counted, List.append_assoc]
  case noPage => exact readRequest_eq_refused [] h (by decide) (by simp [hm])
  case card =>
    refine readRequest_eq h (by decide) (by simp) ?_
    rw [cardGroup_eq, flag_eq, ite_congr (propext (cardWritable_iff s)) (fun _ => rfl) fun _ => rfl]
  case totals =>
    refine readRequest_eq h (by decide) (by simp) ?_
    simp only [totalsGroup, page, optional_eq_maybe, flag]
  case status => exact readRequest_eq h (by decide) rfl (noticeStatusBytes_eq _)
  case levels => exact readRequest_eq h (by decide) rfl rfl
  case mode =>
    refine readRequest_eq h (by decide) rfl ?_
    rw [pendingField_eq, sumBytes_eq, sumBytes_eq, quietFailing_eq, standbyFailing_eq, entryFailing_eq]
    rfl
  case port => exact readRequest_eq h (by decide) rfl rfl
  case job =>
    refine readRequest_eq h (by decide) rfl ?_
    simp only [jobBytes, optional_eq_maybe, flag, openTicketNumber]

end Sys2Proof.Machine

namespace Sys2Proof.Machine

/-! ### Edits that leave every hole covered (R105) -/

section
variable {start h d i n : Nat} {g g' g'' : StrataLog} {upper lower x : Interval}

/-- A log of no more intervals, which covers whatever hole the log before it covered. -/
structure LogKept (g g' : StrataLog) : Prop where
  room : g'.intervals.length ≤ g.intervals.length
  covers : ∀ start h, LogCovers start h g → LogCovers start h g'

theorem LogKept.refl (g : StrataLog) : LogKept g g := ⟨Nat.le_refl _, fun _ _ => id⟩

theorem LogKept.trans (hfirst : LogKept g g') (hsecond : LogKept g' g'') : LogKept g g'' :=
  ⟨Nat.le_trans hsecond.room hfirst.room, fun start h hs => hsecond.covers start h (hfirst.covers start h hs)⟩

/-- The same intervals, and no candidate that was not there. -/
theorem LogKept.of_intervals (hg : g'.intervals = g.intervals)
    (hcand : ∀ c ∈ g'.detector.candidate, c ∈ g.detector.candidate) : LogKept g g' :=
  ⟨Nat.le_of_eq (congrArg List.length hg), fun _ _ hs => hs.congr hg hcand⟩

theorem LogKept.modify {f : Interval → Interval} (hf : KeepsRange f) (n : Nat) (g : StrataLog) :
    LogKept g (modifyInterval n f g) :=
  ⟨Nat.le_of_eq (List.length_modify ..), fun _ _ => LogCovers.modify hf n⟩

/-- Only the sample register differs. -/
theorem LogKept.of_withoutSamples (hg : withoutSamples g' = withoutSamples g) : LogKept g g' := by
  have hintervals : g'.intervals = g.intervals := (congrArg StrataLog.intervals hg :)
  have hdetector : g'.detector = g.detector := (congrArg StrataLog.detector hg :)
  exact .of_intervals hintervals fun c hc => hdetector ▸ hc

/-- R120: an interval joined with the one below it. -/
theorem mergeLog_kept (hu : g.intervals[i]? = some upper) (hl : g.intervals[i + 1]? = some lower) :
    LogKept g (mergeLog (i + 1) g) := by
  obtain ⟨hi, hupper⟩ := List.getElem?_eq_some_iff.mp hu
  obtain ⟨hi', hlower⟩ := List.getElem?_eq_some_iff.mp hl
  have hg : g.intervals = g.intervals.take i ++ upper :: lower :: g.intervals.drop (i + 2) := by
    rw [← hupper, ← hlower, List.getElem_cons_drop, List.getElem_cons_drop, List.take_append_drop]
  rw [mergeLog_eq hu hl]
  have hroom : (g.intervals.take i ++ mergedInterval upper lower :: g.intervals.drop (i + 2)).length ≤ g.intervals.length := by
    simp only [List.length_append, List.length_take, List.length_cons, List.length_drop]
    omega
  refine ⟨hroom, fun start h hs => hs.replace hg rfl (Nat.le_trans hroom hs.room) rfl id (fun hj => ?joined) ?candidate⟩
  case joined =>
    obtain ⟨-, hutop, humm, hlbase, hltop, hlmm, hbelow⟩ := hj
    simp only [topBelow_cons] at hutop humm
    exact ⟨hlbase, Nat.le_trans hutop hltop, by simp only [mergedInterval]; omega, hbelow⟩
  case candidate =>
    intro c hc
    simp only [editedDetector] at hc
    split at hc
    next => cases hc
    next hlast =>
      have hne : g.intervals.drop (i + 2) ≠ [] := mt List.drop_eq_nil_iff.mp (by omega)
      rw [openInterval_of_suffix (below := g.intervals.drop (i + 2)) (by rw [List.append_cons]) hne]
      rw [← openInterval_of_suffix (List.take_append_drop (i + 2) g.intervals).symm hne]
      exact hs.candidate c hc

/-- R121: the interval that contains the depth cut there. -/
theorem splitLog_covers {top hole : Nat} (hroom : g.intervals.length < Config.maxIntervals) (hd : start ≤ d) (hdh : d ≤ h)
    (hs : LogCovers start h g) : LogCovers start h (splitLog top hole d g) := by
  obtain ⟨above, x, below, hg, hindex, hwithin, hbelow⟩ := hs.found hd
  have hx : g.intervals[indexAt g.intervals d]? = some x := by rw [hindex, hg]; simp
  rw [splitLog_eq top hole hx]
  have htake : g.intervals.take (indexAt g.intervals d) = above := by rw [hindex, hg]; simp
  have hdrop : g.intervals.drop (indexAt g.intervals d + 1) = below := by rw [hindex, hg]; simp
  have hlength : g.intervals.length = above.length + 1 + below.length := by simp [hg]; omega
  simp only [htake, hdrop]
  refine hs.replace hg rfl (by simp only [List.length_append, List.length_cons]; omega) rfl id (fun hj => ?joined) ?candidate
  case joined =>
    obtain ⟨hbase, -, hmm, hrest⟩ := hj
    have hreach : d ≤ topBelow h below := by
      cases below with
      | nil => exact hdh
      | cons w below => exact Nat.le_of_lt (hbelow w List.mem_cons_self)
    exact ⟨rfl, hwithin, rfl, hbase, hreach, by simp only [splitLower]; omega, hrest⟩
  case candidate =>
    intro c hc
    simp only [editedDetector] at hc
    split at hc
    next => cases hc
    next hlast =>
      have hne : below ≠ [] := fun hnone => hlast (by rw [hindex, hlength, hnone]; rfl)
      rw [openInterval_of_suffix (below := below) (by rw [List.append_cons, List.append_cons]) hne]
      rw [← openInterval_of_suffix (above := above ++ [x]) (by rw [hg, List.append_cons]) hne]
      exact hs.candidate c hc

end
end Sys2Proof.Machine

namespace Sys2Proof.Machine

/-! ### What `LogCoversHole` looks at -/

/-- The fields of a state, beside its log, that `LogCoversHole` looks at. -/
structure HoleView where
  jobOpen : Bool
  start : Option Nat
  hole : Option Nat

def holeView (s : State) : HoleView := ⟨s.job.isOpen, s.job.start, s.depth.hole⟩

/-- From `s` to `t` the hole and the job stand, and the log still covers what it covered. -/
structure HoleKept (s t : State) : Prop where
  hole : holeView t = holeView s
  log : LogKept s.log t.log

section
variable {s t u : State}

theorem HoleKept.trans (hfirst : HoleKept s t) (hsecond : HoleKept t u) : HoleKept s u :=
  ⟨hsecond.hole.trans hfirst.hole, hfirst.log.trans hsecond.log⟩

theorem HoleKept.of_log (hhole : holeView t = holeView s) (hlog : t.log = s.log) : HoleKept s t :=
  ⟨hhole, hlog ▸ .refl _⟩

theorem HoleKept.refl (s : State) : HoleKept s s := .of_log rfl rfl

/-- What is kept from a state with the same hole, job and log. -/
theorem HoleKept.of_same (h : HoleKept t u) (hhole : holeView t = holeView s) (hlog : t.log = s.log) : HoleKept s u :=
  (HoleKept.of_log hhole hlog).trans h

theorem HoleKept.logCoversHole (h : HoleKept s t) (hs : LogCoversHole s) : LogCoversHole t := by
  rw [logCoversHole_iff] at hs ⊢
  obtain ⟨hroom, hopen, hcovers⟩ := hs
  obtain ⟨hhole, hlog⟩ := h
  simp only [holeView, HoleView.mk.injEq] at hhole
  obtain ⟨hjob, hstart, hdepth⟩ := hhole
  rw [hjob, hstart, hdepth]
  refine ⟨Nat.le_trans hlog.room hroom, hopen, fun start hs => ?_⟩
  obtain ⟨h, hh, hlogs⟩ := hcovers start hs
  exact ⟨h, hh, hlog.covers start h hlogs⟩

/-- A job with a start depth and a log that covers its hole. -/
theorem logCoversHole_of_covers {start h : Nat} (hstart : s.job.start = some start) (hhole : s.depth.hole = some h)
    (hlog : LogCovers start h s.log) : LogCoversHole s := by
  refine (logCoversHole_iff s).mpr ⟨hlog.room, fun _ => by rw [hstart]; rfl, fun start' hs => ?_⟩
  obtain rfl : start = start' := Option.some.inj (hstart.symm.trans hs)
  exact ⟨h, hhole, hlog⟩

/-- While a job is open, it has a start depth, and the log covers its hole. -/
theorem covers_of_open (hs : LogCoversHole s) (hopen : s.job.isOpen = true) :
    ∃ start h, s.job.start = some start ∧ s.depth.hole = some h ∧ LogCovers start h s.log := by
  obtain ⟨-, hjob, hcovers⟩ := (logCoversHole_iff s).mp hs
  obtain ⟨start, hstart⟩ := Option.isSome_iff_exists.mp (hjob hopen)
  obtain ⟨h, hh, hlog⟩ := hcovers start hstart
  exact ⟨start, h, hstart, hh, hlog⟩

/-! ### Changes of mode and answers (R100, R127, R175) -/

theorem setLog_kept {g : StrataLog} (hg : LogKept s.log g) : HoleKept s (s.setLog g) := ⟨rfl, hg⟩

theorem abandonQueue_kept (s : State) : HoleKept s (abandonQueue s) :=
  ⟨by simp [holeView], .of_withoutSamples (foldl_keeps (fun s => withoutSamples s.log)
    (fun s (e : LagEntry) => registerSample e.number e.origin .abandoned false s) (fun _ _ => rfl) _ _)⟩

theorem circEnterSetup_kept (s : State) : HoleKept s (circEnterSetup s) := .of_log (by simp [holeView]) (by simp)

theorem logEnterSetup_kept (s : State) : HoleKept s (logEnterSetup s) :=
  setLog_kept (.of_intervals rfl (by rintro _ ⟨⟩))

theorem enterSetupSteps_kept (s : State) : HoleKept s (enterSetupSteps s) :=
  ((abandonQueue_kept s).trans (circEnterSetup_kept _)).trans (logEnterSetup_kept _)

theorem setMode_kept (m : Mode) (s : State) : HoleKept s (setMode m s) := by
  have hdriven : HoleKept s (drivePermits (s.setModes { s.modes with mode := m })) := .of_log rfl rfl
  unfold setMode
  simp only
  split
  · exact .refl s
  · refine HoleKept.trans ?_ (.of_log (s := if m = .setup then enterSetupSteps _ else _) rfl rfl)
    split
    · exact hdriven.trans (enterSetupSteps_kept _)
    · exact hdriven

theorem takeMode_kept (m : Mode) (s : State) : HoleKept s (takeMode m s) :=
  (setMode_kept m (dropPending s)).of_same rfl rfl

theorem recheck_kept (s : State) : HoleKept s (recheck s) := by
  unfold recheck
  split
  · split
    · exact takeMode_kept _ s
    · exact .refl s
  · exact .refl s

theorem wakeEvent_kept (w : WakeSource) (s : State) : HoleKept s (wakeEvent w s) := by
  have hnoted : ∀ c k a b, HoleKept s (raiseIf c k a b s) := fun _ _ _ _ => .of_log (by simp [holeView]) (by simp)
  unfold wakeEvent
  simp only
  split
  · split
    · exact ((hnoted ..).trans (setMode_kept ..)).trans (recheck_kept _)
    · exact hnoted ..
  · exact .refl s

theorem keptByAnswer_logCoversHole : KeptByAnswer LogCoversHole where
  reply _ _ _ _ _ := (HoleKept.of_log (by rfl) (by rfl)).logCoversHole
  wakes ws _ hs := List.foldlRecOn ws _ hs fun _ ht w _ => (wakeEvent_kept w _).logCoversHole ht
  zeros _ _ := (HoleKept.of_log (by rfl) (by rfl)).logCoversHole

/-! ### The depth computation deepens the hole (R53, R56, R108) -/

theorem handIncrement_covers {start a b : Nat} (hstart : s.job.start = some start) (hab : a ≤ b)
    (hs : LogCovers start a s.log) : LogCovers start b (handIncrement a b s).log := by
  rw [handIncrement_log, hstart, Option.getD_some]
  exact (logIncrement_segmentEnds_covers hab hs).congr rfl fun _ hc => hc

theorem le_advancedHole {raw hole : Nat} (h : hole ≤ raw) : hole ≤ advancedHole raw hole := by
  unfold advancedHole
  split <;> omega

theorem advanceHole_logCoversHole {raw hole start : Nat} (hraw : hole ≤ raw) (hstart : s.job.start = some start)
    (hs : LogCovers start hole s.log) : LogCoversHole (advanceHole raw hole s) := by
  have hnew : (advanceHole raw hole s).depth.hole = some (advancedHole raw hole) :=
    congrArg DepthView.hole (depthView_advanceHole raw hole s)
  refine logCoversHole_of_covers (start := start) (by simpa using hstart) hnew ?_
  have hhanded : ∀ d, LogCovers start (advancedHole raw hole) (if hole < advancedHole raw hole then
      handIncrement hole (advancedHole raw hole) (s.setDepth d) else s.setDepth d).log := by
    intro d
    split
    next hdeeper => exact handIncrement_covers hstart (Nat.le_of_lt hdeeper) hs
    next hsame =>
      rw [Nat.le_antisymm (Nat.not_lt.mp hsame) (le_advancedHole hraw)]
      exact hs
  unfold advanceHole
  simp only
  split <;> exact hhanded _

theorem holeStep_logCoversHole (raw : Nat) (hs : LogCoversHole s) : LogCoversHole (holeStep raw s) := by
  cases hjob : s.job.isOpen with
  | false =>
    rw [holeStep_noJob hjob]
    exact (HoleKept.of_log (s := s) rfl rfl).logCoversHole hs
  | true =>
    obtain ⟨start, hole, hstart, hhole, hlog⟩ := covers_of_open hs hjob
    rw [holeStep_job hjob hhole]
    split
    · exact (HoleKept.of_log (s := s) rfl rfl).logCoversHole hs
    next hbelow =>
      split
      · exact advanceHole_logCoversHole (Nat.le_of_lt (Nat.not_le.mp hbelow)) hstart hlog
      · exact (HoleKept.of_log (by simp [holeView, clampToHole]) (by simp [clampToHole])).logCoversHole hs

theorem depthCompute_logCoversHole (hs : LogCoversHole s) : LogCoversHole (depthCompute s) := by
  unfold depthCompute
  split
  · exact hs
  · simp only
    split
    · exact (HoleKept.of_log (s := s) rfl rfl).logCoversHole hs
    · exact holeStep_logCoversHole _ ((HoleKept.of_log (s := s) rfl rfl).logCoversHole hs)

theorem recheck_depthCompute_logCoversHole (h : HoleKept s t) (hs : LogCoversHole s) :
    LogCoversHole (recheck (depthCompute t)) :=
  (recheck_kept _).logCoversHole (depthCompute_logCoversHole (h.logCoversHole hs))

end
end Sys2Proof.Machine

namespace Sys2Proof.Machine

/-! ### What the requests and the events of the part do to the log -/

section
variable {s t : State}

theorem raise_kept (k : NoticeKind) (a b : Nat) (s : State) : HoleKept s (raise k a b s) := .of_log rfl rfl

/-! #### Samples (R92, R97, R98): the register alone -/

theorem releaseHead_kept (s : State) : HoleKept s (releaseHead s) := by
  unfold releaseHead
  split
  · exact ⟨by simp [holeView], .of_withoutSamples rfl⟩
  · exact .refl s

theorem releaseUpTo_kept (fuel : Nat) (s : State) : HoleKept s (releaseUpTo fuel s) := by
  induction fuel generalizing s with
  | zero => exact .refl s
  | succ fuel ih =>
    unfold releaseUpTo
    split
    · exact (releaseHead_kept s).trans (ih _)
    · exact .refl s

theorem releaseArrivals_kept (s : State) : HoleKept s (releaseArrivals s) := releaseUpTo_kept _ s

theorem lagHandOff_kept (flowOut : Nat) (s : State) : HoleKept s (lagHandOff flowOut s) :=
  (releaseArrivals_kept _).of_same rfl rfl

theorem sampleCaughtTaken_kept (number : Nat) (s : State) : HoleKept s (sampleCaughtTaken number s).state := by
  unfold sampleCaughtTaken
  split
  next e _ =>
    have harrived : HoleKept s (arrive e .caught true (s.setLag { s.lag with queue := s.lag.queue.tail })) :=
      ⟨by simp [holeView], .of_withoutSamples rfl⟩
    exact harrived.trans (releaseArrivals_kept _)
  next =>
    split
    · exact setLog_kept (.of_withoutSamples rfl)
    · split <;> exact .refl s

/-! #### Bands, losses and strikes: within the range of an interval (R117, R118, R122 to R124) -/

theorem modifyInterval_kept {f : Interval → Interval} (hf : KeepsRange f) (n : Nat) (s : State) :
    HoleKept s (s.setLog (modifyInterval n f s.log)) := setLog_kept (.modify hf n s.log)

theorem postBand_kept (n : Nat) (s : State) : HoleKept s (postBand n s) := by
  unfold postBand
  simp only
  split
  · exact .refl s
  · exact (modifyInterval_kept (by constructor <;> simp) n _).of_same (by simp [holeView]) (by simp)

theorem classifyTaken_kept (n : Nat) (lithology : Option Nat) (band : Option Band) (s : State) :
    HoleKept s (classifyTaken n lithology band s) :=
  (modifyInterval_kept (by constructor <;> simp) n s).trans (postBand_kept n _)

theorem postUnclassified_kept (s : State) : HoleKept s (postUnclassified s) := by
  refine List.foldlRecOn (List.range s.log.intervals.length) _ (HoleKept.refl s) fun t ht n _ => ?_
  split
  · exact ht.trans (postBand_kept n t)
  · exact ht

theorem setBandRatesTaken_kept (rates : List Nat) (b : Band) (s : State) : HoleKept s (setBandRatesTaken rates b s) := by
  unfold setBandRatesTaken
  simp only
  split
  · exact (postUnclassified_kept _).of_same (by rfl) (by rfl)
  · exact .of_log rfl rfl

theorem chargeLoss_kept (v z : Nat) (s : State) : HoleKept s (chargeLoss v z s) := by
  unfold chargeLoss
  exact modifyInterval_kept (by constructor <;> simp) _ s

theorem proposeStrike_kept (z : Nat) (s : State) : HoleKept s (proposeStrike z s) := by
  unfold proposeStrike
  simp only
  split
  · exact (modifyInterval_kept (by constructor <;> simp) _ s).trans (raise_kept ..)
  · exact .refl s

theorem tellStrata_kept (d : Option Int) (e : Nat) (gainSet : Bool) (s : State) :
    HoleKept s (tellStrata d e gainSet s) := by
  unfold tellStrata
  extract_lets charged
  have hcharged : HoleKept s charged := by
    simp only [charged]
    split
    · exact chargeLoss_kept _ _ s
    · exact .refl s
  split
  · exact hcharged.trans (proposeStrike_kept _ _)
  · exact hcharged

/-! #### MERGE (R120) -/

theorem mergeTaken_kept {index : Nat} (hindex : index ≠ 0) (hlength : index < s.log.intervals.length) :
    HoleKept s (mergeTaken index s) := by
  obtain ⟨i, rfl⟩ := Nat.exists_eq_succ_of_ne_zero hindex
  have hl := List.getElem?_eq_getElem hlength
  have hu : s.log.intervals[i]? = some s.log.intervals[i] := List.getElem?_eq_getElem (by omega)
  rw [Nat.succ_eq_add_one, mergeTaken_eq hu hl]
  refine ⟨?_, mergeLog_kept hu hl⟩
  simp only
  split <;> simp [holeView]

/-! #### A circulation report (R66, R73, R78 to R80) -/

theorem setStatus_kept (x : CircStatus) (s : State) : HoleKept s (setStatus x s) := by
  unfold setStatus
  split
  · exact .refl s
  · exact (recheck_kept _).of_same (by rfl) (by rfl)

theorem reportStages_kept (p1 p2 flowOut pit : Nat) (s : State) : HoleKept s (reportStages p1 p2 flowOut pit s) := by
  unfold reportStages
  extract_lets e _ judged counted used d balanced told
  have hjudged : HoleKept s judged := .of_log (by simp [judged, stageChannels_eq, holeView]) (by simp [judged, stageChannels_eq])
  have hcounted : HoleKept judged counted := by
    simp only [counted, stageVolume_eq, stageStatus_eq]
    exact (setStatus_kept _ _).of_same (by simp [holeView]) (by simp)
  have hbalanced : HoleKept counted balanced :=
    .of_log (by simp [balanced, d, used, stageBalance_eq, holeView]) (by simp [balanced, d, used, stageBalance_eq])
  have htold : HoleKept balanced told := tellStrata_kept _ _ _ _
  exact (((hjudged.trans hcounted).trans hbalanced).trans htold).trans (lagHandOff_kept _ _)

theorem reportTaken_kept (p1 p2 flowOut pit : Nat) (s : State) : HoleKept s (reportTaken p1 p2 flowOut pit s).state := by
  rw [reportTaken_eq]
  exact reportStages_kept p1 p2 flowOut pit s

/-! #### The device second (R37, R40, R74, R109) -/

theorem expireStab_kept (s : State) : HoleKept s (expireStab s) := by
  unfold expireStab
  split
  · exact (recheck_kept _).of_same (by rfl) (by rfl)
  · exact .refl s

theorem makeStale_kept (s : State) : HoleKept s (makeStale s) := by
  unfold makeStale
  split
  · exact (recheck_kept _).of_same (by rfl) (by rfl)
  · exact .refl s

theorem permitReadback_kept (pins : SensePins) (s : State) : HoleKept s (permitReadback pins s) := by
  unfold permitReadback
  simp only
  split
  · exact (recheck_kept _).of_same (by simp [holeView, sensePermits]) (by simp [sensePermits])
  · exact .of_log (by simp [holeView, sensePermits]) (by simp [sensePermits])

theorem secondComparison_kept (q : Permit) (sense : Bool) (s : State) : HoleKept s (secondComparison q sense s) := by
  unfold secondComparison
  simp only
  split
  · exact (recheck_kept _).of_same (by rfl) (by rfl)
  · exact .of_log rfl rfl

theorem logSecond_kept (s : State) : HoleKept s (logSecond s) := by
  unfold logSecond
  split
  · have hcredited : LogKept s.log (modifyOpen (fun x => { x with drilledSeconds := satAdd Config.max32 x.drilledSeconds 1 }) s.log) :=
      .modify (by constructor <;> simp) _ s.log
    exact setLog_kept (hcredited.trans (.of_intervals rfl fun _ hc => hc))
  · exact .refl s

theorem clockSecond_kept (s : State) : HoleKept s (clockSecond s) := by
  unfold clockSecond
  split
  · exact .of_log (by simp [holeView]) (by simp)
  · exact .refl s

theorem secondPasses_kept (pins : SensePins) (s : State) : HoleKept s (secondPasses pins s) := by
  have hoverdue : HoleKept s (overdueExpiries s) := (expireStab_kept s).trans (makeStale_kept _)
  have hworn : HoleKept (overdueExpiries s) (wearSecond (advanceSeconds (overdueExpiries s))) :=
    .of_log (by simp [holeView, advanceSeconds]) (by simp [advanceSeconds])
  have hread := (hoverdue.trans hworn).trans (permitReadback_kept pins _)
  have hderived : ∀ u, HoleKept u (deriveActivity u) := fun _ => .of_log rfl rfl
  exact ((hread.trans (hderived _)).trans (logSecond_kept _)).trans (clockSecond_kept _)

end
end Sys2Proof.Machine

namespace Sys2Proof.Machine

/-! ### Moves, jobs and power -/

section
variable {s t : State}

theorem refuseMove_kept (code : Nat) (c : ReplyCode) (s : State) : HoleKept s (refuseMove code c s).state := by
  unfold refuseMove
  split <;> exact .of_log (by rfl) (by rfl)

theorem moveTo_kept (x : Tally) (s : State) : HoleKept s (moveTo x s) := .of_log rfl rfl

theorem setSlipsTaken_logCoversHole (hs : LogCoversHole s) : LogCoversHole (setSlipsTaken s) :=
  recheck_depthCompute_logCoversHole (s := s) (.of_log rfl rfl) hs

theorem releaseSlipsTaken_logCoversHole (hs : LogCoversHole s) : LogCoversHole (releaseSlipsTaken s) :=
  recheck_depthCompute_logCoversHole (s := s) (.of_log rfl rfl) hs

theorem breakJointTaken_logCoversHole (hs : LogCoversHole s) : LogCoversHole (breakJointTaken s) :=
  recheck_depthCompute_logCoversHole (s := s) (.of_log rfl rfl) hs

theorem resolveToString_logCoversHole (hs : LogCoversHole s) : LogCoversHole (resolveToString s) :=
  recheck_depthCompute_logCoversHole (s := s) (.of_log rfl rfl) hs

theorem countJoint_kept (serials : List Nat) (s : State) : HoleKept s (countJoint serials s) :=
  .of_log (by simp [holeView]) (by simp)

theorem makeJointTaken_logCoversHole (hs : LogCoversHole s) : LogCoversHole (makeJointTaken s) :=
  ((countJoint_kept _ _).trans (recheck_kept _)).logCoversHole
    (depthCompute_logCoversHole ((HoleKept.of_log (s := s) rfl rfl).logCoversHole hs))

theorem pickRodTaken_kept (slot : Nat) (s : State) : HoleKept s (pickRodTaken slot s) :=
  (recheck_kept _).of_same (by simp [holeView]) (by simp)

theorem rackHeldRod_kept (slot : Nat) (s : State) : HoleKept s (rackHeldRod slot s) :=
  (recheck_kept _).of_same (by rfl) (by rfl)

theorem layOutHeldRod_kept (s : State) : HoleKept s (layOutHeldRod s) := (recheck_kept _).of_same (by rfl) (by rfl)

theorem resolveTaken_logCoversHole (destination slot : Nat) (hs : LogCoversHole s) :
    LogCoversHole (resolveTaken destination slot s) := by
  unfold resolveTaken
  split
  · exact resolveToString_logCoversHole hs
  · exact (rackHeldRod_kept slot s).logCoversHole hs
  · exact (layOutHeldRod_kept s).logCoversHole hs

theorem blockTaken_logCoversHole (height : Nat) (rotation : Bool) (hs : LogCoversHole s) :
    LogCoversHole (blockTaken height rotation s) :=
  depthCompute_logCoversHole ((HoleKept.of_log (s := s) rfl rfl).logCoversHole hs)

/-! #### OPEN JOB and CLOSE JOB (R126, R194, R195) -/

/-- R126: the one interval of a new job, with no hole made yet. -/
theorem logOpenJob_covers (start : Nat) (b : Band) (g : StrataLog) : LogCovers start start (logOpenJob start b g) where
  room := (by decide : 1 ≤ Config.maxIntervals)
  nonempty := List.cons_ne_nil _ _
  joined := ⟨rfl, Nat.le_refl _, (Nat.sub_self _).symm, trivial⟩
  head := by
    rintro _ ⟨⟩
    exact ⟨rfl, rfl⟩
  candidate := by rintro _ ⟨⟩

theorem openJobTaken_logCoversHole (number start interval : Nat) (s : State) :
    LogCoversHole (openJobTaken number start interval s) :=
  depthCompute_logCoversHole (logCoversHole_of_covers (start := start) rfl rfl (logOpenJob_covers ..))

/-- R195: the job closed keeps its start depth, and its log. -/
theorem closeJobTaken_logCoversHole (reference : Nat) (hs : LogCoversHole s) :
    LogCoversHole (closeJobTaken reference s) := by
  obtain ⟨hroom, -, hcovers⟩ := hs
  simpa [LogCoversHole, closeJobTaken] using ⟨hroom, hcovers⟩

/-! #### Power (R196 to R198): the log, the hole and the job are retained -/

theorem chooseMode_kept (s : State) : HoleKept s (chooseMode s) := by
  unfold chooseMode
  simp only
  split <;> exact .of_log (by rfl) (by rfl)

theorem countPowerEvent_kept (s : State) : HoleKept s (countPowerEvent s) := by
  rw [countPowerEvent_eq]
  exact .of_log rfl rfl

theorem checkTally_kept (s : State) : HoleKept s (checkTally s) := by
  unfold checkTally
  split <;> exact .of_log (by rfl) (by rfl)

theorem volatileReset_kept (s : State) : HoleKept s (volatileReset s) := .of_log rfl rfl

theorem readStore_logCoversHole (valid : Bool) (hs : LogCoversHole s) : LogCoversHole (readStore valid s) := by
  cases valid with
  | true => exact hs
  | false =>
    obtain ⟨-, -, -, -, -, hreset, -⟩ := resetMeetsInvariants
    exact (HoleKept.of_log (s := State.reset) rfl rfl).logCoversHole hreset

theorem powerUp_logCoversHole (valid : Bool) (hs : LogCoversHole s) : LogCoversHole (powerUp valid s) := by
  have hstored := readStore_logCoversHole valid ((volatileReset_kept s).logCoversHole hs)
  have hchecked := ((chooseMode_kept (readStore valid (volatileReset s))).trans (countPowerEvent_kept _)).trans (checkTally_kept _)
  exact (hchecked.trans (.of_log rfl rfl)).logCoversHole hstored

theorem execPowerOn_logCoversHole {valid : Bool} (hs : LogCoversHole s) (h : execPowerOn valid s = .next t) :
    LogCoversHole t := by
  unfold execPowerOn at h
  split at h <;> cases h
  · exact powerUp_logCoversHole valid hs
  · exact powerUp_logCoversHole valid hs
  · exact hs
  · exact hs

theorem execResetAsserted_logCoversHole (hs : LogCoversHole s) (h : execResetAsserted s = .next t) : LogCoversHole t := by
  unfold execResetAsserted at h
  split at h <;> cases h <;> exact hs

theorem execResetReleased_logCoversHole {valid : Bool} (hs : LogCoversHole s) (h : execResetReleased valid s = .next t) :
    LogCoversHole t := by
  unfold execResetReleased at h
  split at h <;> cases h
  · exact powerUp_logCoversHole valid hs
  · exact hs
  · exact hs
  · exact hs

theorem execReadTransaction_logCoversHole {p : Port} {clocked : Nat} (hs : LogCoversHole s)
    (h : execReadTransaction p clocked s = .next t) : LogCoversHole t := by
  unfold execReadTransaction at h
  split at h <;> cases h <;> exact hs

/-! ### Every command keeps the log covering the hole (R104, R105) -/

section
variable {p : Port} {code : Nat} {checks : State → List (Bool × ReplyCode)}

/-- A checked request whose effect keeps the hole, the job, and what the log covers. -/
theorem request_kept {r : State → Response} (h : request p code (fun s => checked (checks s) s (r s)) s = .next t)
    (hs : LogCoversHole s) (hr : HoleKept s (r s).state) : LogCoversHole t :=
  request_checked_keeps keptByAnswer_logCoversHole h hs fun _ => hr.logCoversHole hs

/-- A move whose effect leaves the log covering the hole: its refusals touch neither. -/
theorem moveRequest_logCoversHole {effect : State → State} (h : moveRequest p code checks effect s = .next t)
    (hs : LogCoversHole s) (he : LogCoversHole (effect s)) : LogCoversHole t :=
  moveRequest_keeps keptByAnswer_logCoversHole h hs (fun c => (refuseMove_kept code c s).logCoversHole hs) fun _ => he

theorem execReleaseSlips_logCoversHole {pins : SensePins} (hs : LogCoversHole s)
    (h : execReleaseSlips p pins s = .next t) : LogCoversHole t := by
  have hsensed : LogCoversHole (sensePermits pins s) := hs
  refine writeTransaction_keeps keptByAnswer_logCoversHole h hs (respond_keeps keptByAnswer_logCoversHole ?_)
  exact judgedMove_keeps (fun c => (refuseMove_kept _ c _).logCoversHole hsensed)
    fun _ => releaseSlipsTaken_logCoversHole hsensed

theorem execReadTally_logCoversHole {pins : SensePins} (hs : LogCoversHole s) (h : execReadTally p pins s = .next t) :
    LogCoversHole t :=
  writeTransaction_keeps keptByAnswer_logCoversHole h hs (respond_keeps keptByAnswer_logCoversHole hs)

theorem execBadFrame_logCoversHole (hs : LogCoversHole s) (h : execBadFrame p code s = .next t) : LogCoversHole t :=
  writeTransaction_keeps keptByAnswer_logCoversHole h hs hs

theorem execUnknownRequest_logCoversHole (hs : LogCoversHole s) (h : execUnknownRequest p code s = .next t) :
    LogCoversHole t := writeTransaction_keeps keptByAnswer_logCoversHole h hs hs

theorem execEnterSetup_logCoversHole (hs : LogCoversHole s) (h : execEnterSetup p s = .next t) : LogCoversHole t := by
  refine request_kept h hs ?_
  split
  · exact takeMode_kept _ s
  · exact .of_log (by rfl) (by rfl)

theorem execEnterRun_logCoversHole (hs : LogCoversHole s) (h : execEnterRun p s = .next t) : LogCoversHole t := by
  refine request_kept h hs ?_
  split
  · exact .refl s
  · exact takeMode_kept _ s

theorem execEnterStandby_logCoversHole (hs : LogCoversHole s) (h : execEnterStandby p s = .next t) : LogCoversHole t := by
  refine request_keeps keptByAnswer_logCoversHole h hs ?_
  split
  · exact hs
  · split
    · exact (takeMode_kept _ s).logCoversHole hs
    · exact hs

/-- R120: the checks of MERGE that pass name two intervals. -/
theorem execMerge_logCoversHole {index : Nat} (hs : LogCoversHole s) (h : execMerge p index s = .next t) :
    LogCoversHole t := by
  refine request_checked_keeps keptByAnswer_logCoversHole h hs fun hpass => ?_
  rw [firstFailing_eq_none_iff] at hpass
  have hnamed : (noInterval index s).1 = false := hpass _ (by simp)
  have hbelow : (index == 0) = false := hpass (index == 0, .outOfRange) (by simp)
  exact (mergeTaken_kept (by simpa using hbelow) (by simpa [noInterval] using hnamed)).logCoversHole hs

/-- R121: the checks of SPLIT that pass leave room, and put the depth within the hole of an open job. -/
theorem execSplit_logCoversHole {depth : Nat} (hs : LogCoversHole s) (h : execSplit p depth s = .next t) :
    LogCoversHole t := by
  refine request_checked_keeps keptByAnswer_logCoversHole h hs fun hpass => ?_
  simp only [firstFailing_eq_none_iff, editChecks, List.cons_append, List.nil_append, List.forall_mem_cons] at hpass
  obtain ⟨-, -, hjob, hrange, hroom, -⟩ := hpass
  obtain ⟨start, hole, hstart, hhole, hlog⟩ := covers_of_open hs (by simpa using hjob)
  simp only [startDepth, holeDepth, hstart, hhole, Option.getD_some, Bool.or_eq_false_iff, decide_eq_false_iff_not] at hrange
  obtain ⟨⟨hd, hdh⟩, -⟩ := hrange
  exact logCoversHole_of_covers hstart hhole
    (splitLog_covers (Nat.not_le.mp (by simpa using hroom)) (by omega) (Nat.not_lt.mp hdh) hlog)

end

theorem exec_logCoversHole (c : Instr) (hs : LogCoversHole s) (h : exec c s = .next t) : LogCoversHole t := by
  cases c with
  | merge => exact execMerge_logCoversHole hs h
  | split => exact execSplit_logCoversHole hs h
  | classify => exact request_kept h hs (classifyTaken_kept ..)
  | confirm | waterStrike | clearWaterStrike => exact request_kept h hs (modifyInterval_kept (by constructor <;> simp) _ s)
  | setDrillBreak => exact request_kept h hs (setLog_kept (.of_intervals rfl (by rintro _ ⟨⟩)))
  | reArm => exact request_kept h hs (setLog_kept (.of_intervals rfl fun _ hc => hc))
  | setBandRates => exact request_kept h hs (setBandRatesTaken_kept _ _ s)
  | sampleArrival => exact whileRunning_keeps h hs ((releaseHead_kept s).logCoversHole hs)
  | sampleCaught => exact request_kept h hs (sampleCaughtTaken_kept _ s)
  | circulation => exact request_kept h hs (reportTaken_kept _ _ _ _ s)
  | block =>
    exact request_checked_keeps keptByAnswer_logCoversHole h hs fun _ => blockTaken_logCoversHole _ _ hs
  | setBha =>
    exact request_checked_keeps keptByAnswer_logCoversHole h hs fun _ =>
      depthCompute_logCoversHole ((HoleKept.of_log (s := s) rfl rfl).logCoversHole hs)
  | openJob =>
    exact request_checked_keeps keptByAnswer_logCoversHole h hs fun _ => openJobTaken_logCoversHole _ _ _ s
  | closeJob =>
    exact request_checked_keeps keptByAnswer_logCoversHole h hs fun _ => closeJobTaken_logCoversHole _ hs
  | setSlips => exact moveRequest_logCoversHole h hs (setSlipsTaken_logCoversHole hs)
  | releaseSlips => exact execReleaseSlips_logCoversHole hs h
  | breakJoint => exact moveRequest_logCoversHole h hs (breakJointTaken_logCoversHole hs)
  | makeJoint => exact moveRequest_logCoversHole h hs (makeJointTaken_logCoversHole hs)
  | resolveRod => exact moveRequest_logCoversHole h hs (resolveTaken_logCoversHole _ _ hs)
  | pickRod => exact moveRequest_logCoversHole h hs ((pickRodTaken_kept _ s).logCoversHole hs)
  | rackRod => exact moveRequest_logCoversHole h hs ((rackHeldRod_kept _ s).logCoversHole hs)
  | layOutRod => exact moveRequest_logCoversHole h hs ((layOutHeldRod_kept s).logCoversHole hs)
  | unlatch | latch | stab =>
    exact moveRequest_logCoversHole h hs (((moveTo_kept _ s).trans (recheck_kept _)).logCoversHole hs)
  | circStale => exact whileRunning_keeps h hs ((makeStale_kept s).logCoversHole hs)
  | deviceSecond => exact whileRunning_keeps h hs ((secondPasses_kept _ s).logCoversHole hs)
  | makeupExpired => exact whileRunning_keeps h hs ((expireStab_kept s).logCoversHole hs)
  | permitFault => exact whileRunning_keeps h hs ((secondComparison_kept _ _ s).logCoversHole hs)
  | pendingModeTaken => exact whileRunning_keeps h hs ((recheck_kept s).logCoversHole hs)
  | powerOn => exact execPowerOn_logCoversHole hs h
  | resetAsserted => exact execResetAsserted_logCoversHole hs h
  | resetReleased => exact execResetReleased_logCoversHole hs h
  | powerLoss => cases h; exact hs
  | readTransaction => exact execReadTransaction_logCoversHole hs h
  | enterSetup => exact execEnterSetup_logCoversHole hs h
  | enterRun => exact execEnterRun_logCoversHole hs h
  | enterWatch => exact request_kept h hs (takeMode_kept _ s)
  | enterStandby => exact execEnterStandby_logCoversHole hs h
  | readTally => exact execReadTally_logCoversHole hs h
  | badFrame => exact execBadFrame_logCoversHole hs h
  | unknownRequest => exact execUnknownRequest_logCoversHole hs h
  | portReset | readNotice | readSummary => exact request_keeps keptByAnswer_logCoversHole h hs hs
  | readRod | readRodList | readSlot | readLaidOutList | readWearLimits | readStack | readBha | readMakeupLimits
  | readDepth | readCirculation | readChannel | readPumps | readCasingProgram | readAnnulus | readLagQueue | readLog
  | readInterval | readIntervalAtDepth | readSamples | readTicket | readRateCard | readJobTotals | readNoticeStatus
  | readNoticeLevels | readMode | readPortStatus | readJob => exact readRequest_keeps keptByAnswer_logCoversHole h hs
  | rackSense =>
    refine request_kept h hs (.of_log ?_ ?_)
    · exact foldl_keeps holeView (fun s n => raise .rackDiscrepancy n 0 s) (fun _ _ => rfl) _ _
    · exact foldl_keeps State.log (fun s n => raise .rackDiscrepancy n 0 s) (fun _ _ => rfl) _ _
  | registerRod | deleteRod | restoreRod | setWearLimits | setSlotSensing | setMakeupLimits | downStart | downEnd
  | setPump | setCirculationLimits | additive | setCasingProgram | setTierMultipliers | setHourlyRates
  | setAdditivePrices | closeTicket | acknowledgeTicket | setNoticeLevels | setNoticeFilter | cancelMode | setWakeTable =>
    refine request_kept h hs (.of_log ?_ ?_)
    · simp [holeView, registerRodTaken, restoreRodTaken]
    · simp [registerRodTaken, restoreRodTaken]

end

/-- Settles O10: the hole is deepened by a depth computation alone, with the log's work on the increment (`logIncrement_covers`); every
other command keeps the hole, and edits the log within it (`HoleKept`), or begins a new one at its start depth. -/
theorem stepKeepsLogCoversHole : Obligations.StepKeepsLogCoversHole := fun s t hs h =>
  step_keeps LogCoversHole (fun _ _ h => h) (fun c _ _ hs h => exec_logCoversHole c hs h) s t hs h

end Sys2Proof.Machine
